-- ==== Sys2Proof/Word.lean ====
section
/-! DEFINITION. The word types of the cgax16 block. Every cell is a byte; codes are 8 bits, micro-words, page offsets and start addresses 16 bits (00_scope.md R6; all values are unsigned, R9). -/

namespace Sys2Proof

/-- A memory cell, a code, a command byte, a ROM address. -/
abbrev Byte := BitVec 8

/-- A micro-word, a page offset, a start address. -/
abbrev Word := BitVec 16

end Sys2Proof
end

