-- ==== Sys2Proof/Syntax.lean ====
section
/-! DEFINITION. Syntax: the 31 rows of spec/opcode_table.json (4 host commands, 27 micro-operations) as one inductive, and the host's other actions (30_encoding.md R76, R25). -/

namespace Sys2Proof

/-- One constructor per row of spec/opcode_table.json, in the table's order. An argument is the unsigned 8-bit `arg` of 30_encoding.md R72. -/
inductive Instr where
  /-- Command 0x01 (43_detector.md R160). -/
  | config
  /-- Command 0x02 (44_host_interface.md R172). -/
  | present
  /-- Command 0x03 (40_sync.md R105). -/
  | waitv
  /-- Command 0x04 (44_host_interface.md R173). -/
  | restore
  | idle
  | done
  /-- `target`: a ROM address. -/
  | call (target : Byte)
  | ret
  /-- `target`: a ROM address. -/
  | bega (target : Byte)
  /-- `target`: a ROM address. -/
  | bmono (target : Byte)
  /-- `target`: a ROM address. -/
  | plnext (target : Byte)
  | wvlo
  | wvhi
  | wde
  | pack
  | copy
  | plinit
  | psel
  | slice
  | swap
  | saddr
  | sahi
  | salo
  /-- `selector`: 0 = MODE_TEXT, 1 = MODE_EGA. -/
  | smode (selector : Byte)
  | qsw
  | qds
  /-- `slot`: a CRT-controller slot 0 to 3. -/
  | crtcw (slot : Byte)
  | stamp
  | lfbclr
  /-- `binding`: 1 or 2. -/
  | bind (binding : Byte)
  /-- `cls`: a classification 0 to 2. -/
  | report (cls : Byte)
deriving DecidableEq, Repr

/-- The name of the instruction in spec/opcode_table.json (30_encoding.md R76: "MNEMONIC [arg]"). -/
def Instr.mnemonic : Instr → String
  | .config => "CONFIG" | .present => "PRESENT" | .waitv => "WAITV" | .restore => "RESTORE"
  | .idle => "IDLE" | .done => "DONE" | .call _ => "CALL" | .ret => "RET"
  | .bega _ => "BEGA" | .bmono _ => "BMONO" | .plnext _ => "PLNEXT"
  | .wvlo => "WVLO" | .wvhi => "WVHI" | .wde => "WDE"
  | .pack => "PACK" | .copy => "COPY"
  | .plinit => "PLINIT" | .psel => "PSEL" | .slice => "SLICE" | .swap => "SWAP"
  | .saddr => "SADDR" | .sahi => "SAHI" | .salo => "SALO"
  | .smode _ => "SMODE" | .qsw => "QSW" | .qds => "QDS" | .crtcw _ => "CRTCW"
  | .stamp => "STAMP" | .lfbclr => "LFBCLR" | .bind _ => "BIND" | .report _ => "REPORT"

/-- The host registers that can be named in `RD reg` (10_state.md R25, H1 to H5; 30_encoding.md R76). H0, CMD, is write-only. -/
inductive HostReg where
  | status | cls | fcode | pageVis | pageAct
deriving DecidableEq, Repr

/-- What the host can do at the block's bus (10_state.md R25, 44_host_interface.md R175 to R177). -/
inductive HostAction where
  /-- CMD ← c. -/
  | writeCmd (c : Byte)
  /-- `LFBW i, v`. -/
  | lfbWrite (i : Nat) (v : Byte)
  /-- `LFBR i`. -/
  | lfbRead (i : Nat)
  /-- `RD reg`. -/
  | readReg (r : HostReg)
  /-- A write to H1 to H5, which is ignored (10_state.md R25). -/
  | writeReg (r : HostReg) (v : Word)
deriving DecidableEq, Repr

end Sys2Proof
end

