-- ==== Sys2Proof/WellFormed.lean ====
section
/-! DEFINITION. Well-formed instructions: the legal arguments of 30_encoding.md R74 (the field `arg_legal` of spec/opcode_table.json). An address argument may be any 8-bit value. -/

namespace Sys2Proof

/-- An SMODE selector is 0 or 1. -/
def selectorLegal (a : Byte) : Bool := decide (a.toNat ≤ 1)
/-- A CRTCW slot is 0 to 3. -/
def slotLegal (a : Byte) : Bool := decide (a.toNat ≤ 3)
/-- A BIND argument is 1 or 2. -/
def bindingLegal (a : Byte) : Bool := a == 1#8 || a == 2#8
/-- A REPORT argument is 0 to 2. -/
def classLegal (a : Byte) : Bool := decide (a.toNat ≤ 2)

def Instr.wellFormed : Instr → Bool
  | .smode a => selectorLegal a
  | .crtcw a => slotLegal a
  | .bind a => bindingLegal a
  | .report a => classLegal a
  | .config | .present | .waitv | .restore | .idle | .done | .call _ | .ret | .bega _ | .bmono _ | .plnext _
  | .wvlo | .wvhi | .wde | .pack | .copy | .plinit | .psel | .slice | .swap | .saddr | .sahi | .salo
  | .qsw | .qds | .stamp | .lfbclr => true

end Sys2Proof
end

