-- ==== Sys2Proof/Decode.lean ====
section
/-! DEFINITION. The decoder (30_encoding.md R70 to R75), total, rejecting by name, and after it the encoder. A command is one byte (format H); a micro-word is 16 bits, op in bits 15:8 and arg in bits 7:0 (format U). -/

namespace Sys2Proof

/-- The two fixed formats (30_encoding.md R75: commands are one byte, micro-words 16 bits). -/
inductive Code where
  | command (b : Byte)
  | micro (w : Word)
deriving DecidableEq, Repr

/-- Why a code has no meaning. -/
inductive Reject where
  /-- A command byte 0x00 or 0x05 to 0xFF (30_encoding.md R71). -/
  | reservedCommand (b : Byte)
  /-- A micro-word that matches no row: no such op, or a non-zero arg on a micro-operation that takes none (R74). -/
  | noSuchMicroOp (w : Word)
  /-- A micro-word that matches a row whose legal arguments leave its arg out (R74). -/
  | argNotLegal (w : Word)
deriving DecidableEq, Repr

/-- The command codes (30_encoding.md R70, R71). -/
def decodeCommand (b : Byte) : Except Reject Instr :=
  if b = 0x01#8 then .ok .config
  else if b = 0x02#8 then .ok .present
  else if b = 0x03#8 then .ok .waitv
  else if b = 0x04#8 then .ok .restore
  else .error (.reservedCommand b)

/-- A row of the table of 30_encoding.md R73: it selects `w` when `w &&& mask = pattern`. -/
structure MicroRow where
  pattern : Word
  mask : Word
  legal : Byte → Bool
  build : Byte → Instr

/-- A row whose micro-operation takes no argument. -/
def plainRow (pattern : Word) (i : Instr) : MicroRow := ⟨pattern, 0xFFFF#16, fun _ => true, fun _ => i⟩

/-- A row whose micro-operation takes an argument that `legal` allows. -/
def argRow (pattern : Word) (legal : Byte → Bool) (build : Byte → Instr) : MicroRow := ⟨pattern, 0xFF00#16, legal, build⟩

/-- Any 8-bit value is an address. -/
def anyAddress (_ : Byte) : Bool := true

/-- The 27 rows of 30_encoding.md R73, in its order. -/
def microTable : List MicroRow :=
  [ plainRow 0x0000#16 .idle,
    plainRow 0x0100#16 .done,
    argRow   0x0200#16 anyAddress .call,
    plainRow 0x0300#16 .ret,
    argRow   0x0400#16 anyAddress .bega,
    argRow   0x0500#16 anyAddress .bmono,
    argRow   0x0600#16 anyAddress .plnext ]
  ++
  [ plainRow 0x1000#16 .wvlo,
    plainRow 0x1100#16 .wvhi,
    plainRow 0x1200#16 .wde,
    plainRow 0x2000#16 .pack,
    plainRow 0x2100#16 .copy ]
  ++
  [ plainRow 0x3000#16 .plinit,
    plainRow 0x3100#16 .psel,
    plainRow 0x3200#16 .slice,
    plainRow 0x3300#16 .swap,
    plainRow 0x3400#16 .saddr,
    plainRow 0x3500#16 .sahi,
    plainRow 0x3600#16 .salo ]
  ++
  [ argRow   0x4000#16 selectorLegal .smode,
    plainRow 0x4100#16 .qsw,
    plainRow 0x4200#16 .qds,
    argRow   0x4300#16 slotLegal .crtcw,
    plainRow 0x4400#16 .stamp,
    plainRow 0x4500#16 .lfbclr,
    argRow   0x4600#16 bindingLegal .bind,
    argRow   0x4700#16 classLegal .report ]

/-- The row's selection, "(w & mask) = match" (30_encoding.md R73). -/
def MicroRow.selects (r : MicroRow) (w : Word) : Bool := (w &&& r.mask) == r.pattern

/-- The op field, bits 15:8 (30_encoding.md R72). -/
def opField (w : Word) : Byte := w.extractLsb' 8 8

/-- The arg field, bits 7:0 (30_encoding.md R72). -/
def argField (w : Word) : Byte := w.extractLsb' 0 8

/-- The micro-words (30_encoding.md R73, R74): first the match, then the legal arguments. -/
def decodeMicro (w : Word) : Except Reject Instr :=
  match microTable.find? (fun r => r.selects w) with
  | none => .error (.noSuchMicroOp w)
  | some r => if r.legal (argField w) then .ok (r.build (argField w)) else .error (.argNotLegal w)

/-- The decoder on both formats. -/
def decode : Code → Except Reject Instr
  | .command b => decodeCommand b
  | .micro w => decodeMicro w

/-- The instruction the decoder reads from a row's bits, numbered as spec/opcode_table.json numbers them: a row of 8 bits is a command byte, one of 16 bits a micro-word. The machine has no other width. -/
def decodeTableWord (nbits w : Nat) : Option Instr :=
  if nbits = 8 then (decode (.command (BitVec.ofNat 8 w))).toOption
  else if nbits = 16 then (decode (.micro (BitVec.ofNat 16 w))).toOption
  else none

/-! ## The encoder -/

/-- A micro-word from its two fields (30_encoding.md R72). -/
def microWord (op arg : Byte) : Word := op ++ arg

/-- The code of an instruction (30_encoding.md R70, R73). -/
def encode : Instr → Code
  | .config => .command 0x01#8
  | .present => .command 0x02#8
  | .waitv => .command 0x03#8
  | .restore => .command 0x04#8
  | .idle => .micro (microWord 0x00#8 0#8)
  | .done => .micro (microWord 0x01#8 0#8)
  | .call a => .micro (microWord 0x02#8 a)
  | .ret => .micro (microWord 0x03#8 0#8)
  | .bega a => .micro (microWord 0x04#8 a)
  | .bmono a => .micro (microWord 0x05#8 a)
  | .plnext a => .micro (microWord 0x06#8 a)
  | .wvlo => .micro (microWord 0x10#8 0#8)
  | .wvhi => .micro (microWord 0x11#8 0#8)
  | .wde => .micro (microWord 0x12#8 0#8)
  | .pack => .micro (microWord 0x20#8 0#8)
  | .copy => .micro (microWord 0x21#8 0#8)
  | .plinit => .micro (microWord 0x30#8 0#8)
  | .psel => .micro (microWord 0x31#8 0#8)
  | .slice => .micro (microWord 0x32#8 0#8)
  | .swap => .micro (microWord 0x33#8 0#8)
  | .saddr => .micro (microWord 0x34#8 0#8)
  | .sahi => .micro (microWord 0x35#8 0#8)
  | .salo => .micro (microWord 0x36#8 0#8)
  | .smode a => .micro (microWord 0x40#8 a)
  | .qsw => .micro (microWord 0x41#8 0#8)
  | .qds => .micro (microWord 0x42#8 0#8)
  | .crtcw a => .micro (microWord 0x43#8 a)
  | .stamp => .micro (microWord 0x44#8 0#8)
  | .lfbclr => .micro (microWord 0x45#8 0#8)
  | .bind a => .micro (microWord 0x46#8 a)
  | .report a => .micro (microWord 0x47#8 a)

end Sys2Proof
end

