-- ==== Sys2Proof/Config.lean ====
section
/-! DEFINITION. What is fixed for the machine: the constants of 00_scope.md R4, the record of the parameters of R5 with its constraints and default values, and the free values (constants with no body). -/

namespace Sys2Proof.Config

/-! ## Constants the document fixes (00_scope.md R4) -/

/-- Logical pixels per row. -/
abbrev W : Nat := 160
/-- Logical rows. -/
abbrev H : Nat := 100
/-- Cells of the Logical Frame Buffer. -/
abbrev NPIX : Nat := 16000
/-- Significant bits of a pixel value. -/
abbrev PIXBITS : Nat := 4
/-- Pixel pairs, the size of the staging array. -/
abbrev NPAIR : Nat := 8000
/-- Bytes of the CGA hardware buffer. -/
abbrev CGA_SIZE : Nat := 16000
/-- Stamped at even offsets of the CGA hardware buffer. -/
abbrev GLYPH : Byte := 0xDE#8
/-- Stamped at odd offsets of the CGA hardware buffer at configuration. -/
abbrev ATTR0 : Byte := 0x00#8
/-- EGA bitplanes. -/
abbrev NPLANE : Nat := 4
/-- Logical pixels per EGA output byte. -/
abbrev GROUP : Nat := 4
/-- Bytes per physical EGA row per plane. -/
abbrev ROWBYTES : Nat := 40
/-- Physical EGA rows per region. -/
abbrev PROWS : Nat := 200
/-- Bytes per plane per region (90_conflicts.md C2). -/
abbrev PLANEBYTES : Nat := 8000
/-- The display-settings code of monochrome 80×25 text. -/
abbrev MONO_CODE : Byte := 0x07#8
abbrev CLASS_NONE : Byte := 0#8
abbrev CLASS_CGA : Byte := 1#8
abbrev CLASS_EGA : Byte := 2#8
/-- Frames of the animation scenario; test vectors only. -/
abbrev PERIOD : Nat := 16

/-- The four byte-addressed spaces of 20_memory.md R40. The other two, PORT and SVC, are reached by named operations and have no offsets. -/
inductive Space where
  | lfb | stage | cgahw | egahw
deriving DecidableEq, Repr

/-! ## Parameters the document leaves open (00_scope.md R5) -/

/-- The configuration record of 00_scope.md R5, one field a row of its table. -/
structure Params where
  egaCodes : List Byte
  modeText : Byte
  modeEga : Byte
  pageA : Word
  pageB : Word
  egaPlaneSize : Nat
  cgaBase : Nat
  egaBase : Nat
  portStatus : Nat
  vrMask : Byte
  deMask : Byte
  /-- The value of the DE_MASK bit while the adapter is mid-scan is 1. -/
  deBitWhenScanning : Bool
  portCrtcIndex : Nat
  portCrtcData : Nat
  /-- Register numbers of vertical total, vertical displayed rows, vertical sync position, scan-line count. -/
  crtcIdx : Vector Byte 4
  /-- Values written to those four registers. -/
  crtcVal : Vector Byte 4
  crtcIdxSah : Byte
  crtcIdxSal : Byte
  portSeqIndex : Nat
  portSeqData : Nat
  seqIdxMapmask : Byte
  /-- The process result for "no compatible adapter found". -/
  exitUnsupported : Nat
deriving DecidableEq, Repr

/-- The column "default" of 00_scope.md R5 (DESIGN CHOICE, log 1: "for tests and examples only"). -/
def Params.default : Params where
  egaCodes := [0x09#8]
  modeText := 0x03#8
  modeEga := 0x0D#8
  pageA := 0x0000#16
  pageB := 0x2000#16
  egaPlaneSize := 65536
  cgaBase := 0xB8000
  egaBase := 0xA0000
  portStatus := 0x3DA
  vrMask := 0x08#8
  deMask := 0x01#8
  deBitWhenScanning := false
  portCrtcIndex := 0x3D4
  portCrtcData := 0x3D5
  crtcIdx := #v[0x04#8, 0x06#8, 0x07#8, 0x09#8]
  crtcVal := #v[0x7F#8, 0x64#8, 0x70#8, 0x01#8]
  crtcIdxSah := 0x0C#8
  crtcIdxSal := 0x0D#8
  portSeqIndex := 0x3C4
  portSeqData := 0x3C5
  seqIdxMapmask := 0x02#8
  exitUnsupported := 1

/-- A mask with one bit set. -/
def isOneBit (m : Byte) : Bool := m != 0#8 && (m &&& (m - 1#8)) == 0#8

/-- The regions `[a, a+8000)` and `[b, b+8000)` do not meet. -/
def regionsDisjoint (a b : Word) : Bool :=
  decide (a.toNat + PLANEBYTES ≤ b.toNat) || decide (b.toNat + PLANEBYTES ≤ a.toNat)

/-- The column "constraint" of 00_scope.md R5. -/
def Params.valid (p : Params) : Bool :=
  p.egaCodes.contains 0x09#8 && !p.egaCodes.contains 0x07#8
  && p.modeText != p.modeEga
  && decide (p.pageA.toNat + PLANEBYTES ≤ p.egaPlaneSize)
  && decide (p.pageB.toNat + PLANEBYTES ≤ p.egaPlaneSize)
  && regionsDisjoint p.pageA p.pageB
  && isOneBit p.vrMask && isOneBit p.deMask && p.vrMask != p.deMask
  && decide p.crtcIdx.toList.Nodup
  && p.crtcIdxSah != p.crtcIdxSal
  && p.exitUnsupported != 0

/-! ## Free values: constants with no body, so that no proof can see one -/

/-- The content of a cell of LFB or STAGE that nothing has written since the reset numbered `epoch` (10_state.md R33 "unspecified"; log 4). -/
opaque unwrittenCell : (sp : Space) → (epoch addr : Nat) → Byte

/-- The content of CRT-controller register `r` that nothing has written since the mode request numbered `epoch` (20_memory.md R47 "become unspecified"; log 9). -/
opaque unwrittenCrtc : (epoch : Nat) → (r : Byte) → Byte

/-- The start address the adapter scans out from after a mode request other than MODE_EGA (10_state.md R28: set_mode sets SA_LATCHED; no value is given; log 10). -/
opaque latchAfterMode : (epoch : Nat) → Word

/-- A fresh byte for each count: the packed CGA byte of a cell above 15 (30_encoding.md R89; log 5), a service answer that no input lists (20_memory.md R47; log 6), and the byte SLICE forms at a plane counter above 3 (log 21). -/
opaque freeByte : (count : Nat) → Byte

/-- A fresh plane number for each count: the plane PSEL selects at a plane counter above 3 (20_memory.md R46 "p = 0 to 3"; log 21). -/
opaque freePlane : (count : Nat) → Fin 4

/-- The levels of VR and DE for each count: what the adapter drives where no move of it is listed (10_state.md R27, 70_reset_and_hazards.md R236 "any values for ever"; log 7). -/
opaque freeLines : (count : Nat) → Bool × Bool

end Sys2Proof.Config
end

