-- ==== Sys2Proof/Machine/State.lean ====
section
/-! DEFINITION. The state as plain data: the block's memories and registers, the adapter's state, the event history (10_state.md R10), and the model's own inputs and counters. State.reset. The faults and the refusals. -/

namespace Sys2Proof.Machine

open Sys2Proof.Config (Space Params)

/-- A byte memory: (offset, byte) pairs, offsets strictly rising. An offset that is not listed holds no value the model names: nothing has written it since its contents became unspecified (log 4). -/
abbrev Memory := List Host.Cell

/-- The refusal reasons of 60_exceptions.md R195 to R199. -/
inductive Reason where
  | illegalCommand | unboundPresent | reconfigure | busyAccess | outOfRange
deriving DecidableEq, Repr

/-- The events of 20_memory.md R48. -/
inductive Event where
  | cmd (c : Byte)
  | setMode (m : Byte)
  | querySwitches (c : Byte)
  | querySettings (c : Byte)
  | statusRead (vr de : Bool)
  | crtcWrite (r v : Byte)
  | planeSelect (p : Fin 4)
  /-- `HwWrite(CGAHW, off, v)`. -/
  | hwWriteCga (off : Nat) (v : Byte)
  /-- `HwWrite(EGAHW, p, a, v)`. -/
  | hwWriteEga (p : Fin 4) (a : Nat) (v : Byte)
  | report (c : Byte)
  | done
  | refused (r : Reason)
deriving DecidableEq, Repr

/-- STATUS, 8 bits (10_state.md R23). Bits 7:4 have no storage; the byte the host reads is `Status.word`. -/
structure Status where
  /-- Bit 0: a command runs. -/
  busy : Bool
  /-- Bit 1: a CONFIG has completed. -/
  cfgd : Bool
  /-- Bit 2: CONFIG ended with classification 0. -/
  unsup : Bool
  /-- Bit 3: a command or access was refused; sticky. -/
  fault : Bool
deriving DecidableEq, Repr

/-- The four planes of EGAHW (10_state.md R30). -/
structure EgaPlanes where
  p0 : Memory
  p1 : Memory
  p2 : Memory
  p3 : Memory
deriving DecidableEq, Repr

/-- The adapter state the block's rules refer to (10_state.md R26). None of it is reset by the block's reset. -/
structure Adapter where
  /-- VR: vertical retrace is asserted. -/
  vr : Bool
  /-- DE: the adapter is mid-scan. -/
  de : Bool
  /-- ADP_MODE: the mode id last requested. -/
  mode : Byte
  /-- ADP_CRTC[r], by register number; a register not listed is unspecified. -/
  crtc : Memory
  /-- SA_LATCHED: the start address the adapter scans out from. -/
  saLatched : Word
  /-- ADP_PLANE: the plane selected, or unset. -/
  plane : Option (Fin 4)
  cgahw : Memory
  egahw : EgaPlanes
deriving DecidableEq, Repr

/-- A move of one agent (00_scope.md R8). -/
inductive Input where
  /-- The block takes a step. -/
  | block
  /-- The adapter drives VR and DE to these levels. -/
  | lines (vr de : Bool)
  /-- The adapter drives its lines so that its status port reads as this byte (20_memory.md R45). -/
  | statusByte (b : Byte)
  /-- The host acts. -/
  | host (a : HostAction)
  /-- The reset input is asserted (70_reset_and_hazards.md R220). -/
  | reset
deriving DecidableEq, Repr

/-- The model's own fields: what the outside will do, what the host read, and the counters that number the free values. -/
structure Env where
  /-- The moves still to come, the next one first; with none left the adapter drives any levels and the block moves (log 7). -/
  inputs : List Input
  /-- The answers `Svc.get_adapter_switches()` will give, the next one first (log 6). -/
  swAnswers : List Byte
  /-- The answers `Svc.get_current_display_settings()` will give, the next one first (log 6). -/
  dsAnswers : List Byte
  /-- The value the host's last read returned, zero-extended; none after a refused read (log 17). -/
  hostReply : Option Word
  /-- How many fresh free bytes and plane numbers have been used. -/
  freeCount : Nat
  /-- How many times the adapter has driven free levels. -/
  lineCount : Nat
  /-- How many resets of the block there have been. -/
  resetCount : Nat
  /-- How many mode requests there have been. -/
  modeCount : Nat
deriving DecidableEq, Repr

/-- The machine's state. -/
structure State where
  /-- The parameters of 00_scope.md R5; no step changes them (log 1). -/
  cfg : Params
  /-- UPC, the micro-program counter (10_state.md R14). -/
  upc : Byte
  /-- RET, the return register (R15). -/
  ret : Byte
  /-- IDX, the index counter (R16). -/
  idx : BitVec 14
  /-- PL, the plane counter (R17). -/
  pl : BitVec 3
  /-- SA, the start-address register (R18). -/
  sa : Word
  /-- SW, the adapter-switches register (R19). -/
  sw : Byte
  /-- DS, the display-settings register (R20). -/
  ds : Byte
  /-- BIND, the presenter binding (R21). -/
  bind : BitVec 2
  /-- PAGE_VIS (R22). -/
  pageVis : Word
  /-- PAGE_ACT (R22). -/
  pageAct : Word
  /-- CMD: the byte the host writes in this step, if it writes one (R25: it holds no state of its own). -/
  cmd : Option Byte
  /-- STATUS (R23). -/
  status : Status
  /-- FCODE (R24). -/
  fcode : Byte
  /-- LFB, the Logical Frame Buffer (R11). -/
  lfb : Memory
  /-- STAGE, the staging array (R12). -/
  stage : Memory
  /-- The event history (20_memory.md R48), newest first; `State.history` is the list in the order of the steps. -/
  events : List Event
  adapter : Adapter
  env : Env
  /-- Micro-words placed over the fixed ROM from outside; empty in the machine of the spec, and no step changes it (log 13). -/
  romPatch : List (Nat × Word)
deriving DecidableEq, Repr

/-- The event history in the order of the steps (20_memory.md R48). -/
def State.history (s : State) : List Event := s.events.reverse

/-- Why the machine stops. Every one is safe: the machine of the spec reaches none of them from reset. -/
inductive Fault where
  /-- The block is stuck: the word fetched, or the instruction executed, is a reserved micro-word (30_encoding.md R74; 93_implementation_defined.md U12). Raised by the block's fetch, SMODE, CRTCW, BIND and REPORT. Safe (log 14). -/
  | reservedMicroWord (w : Word)
  /-- A micro-operation forms an offset that the space does not have (20_memory.md R41 to R44). Raised by PACK, COPY, SLICE, STAMP and LFBCLR. Safe (log 15). -/
  | offsetOutOfRange (sp : Space) (off : Nat)
  /-- A write to EGAHW while ADP_PLANE is unset (93_implementation_defined.md U8). Raised by SLICE. Safe (log 15). -/
  | planeUnset
deriving DecidableEq, Repr

/-- Why an instruction has no meaning. -/
inductive Refusal where
  /-- The instruction is not modelled: an arm of `exec`. Safe. No arm answers it. -/
  | notModelled (mnemonic : String)
deriving DecidableEq, Repr

/-- What a step answers. -/
abbrev Result := Host.Outcome State Fault Refusal

/-- STATUS = 0x00. -/
def Status.clear : Status := ⟨false, false, false, false⟩

/-- The adapter before anything has acted on it (10_state.md R26 "unspecified"): a DESIGN CHOICE, log 3. -/
def Adapter.initial : Adapter where
  vr := false
  de := false
  mode := 0x00#8
  crtc := []
  saLatched := 0x0000#16
  plane := none
  cgahw := []
  egahw := ⟨[], [], [], []⟩

/-- No input listed, nothing read, no free value used: a DESIGN CHOICE, log 7. -/
def Env.initial : Env where
  inputs := []
  swAnswers := []
  dsAnswers := []
  hostReply := none
  freeCount := 0
  lineCount := 0
  resetCount := 0
  modeCount := 0

/-- The machine of the parameters `p` right after reset (10_state.md R33). RET, PL, SA, SW and DS are unspecified there and zero here (DESIGN CHOICE, log 2). -/
def State.resetWith (p : Params) : State where
  cfg := p
  upc := 0x00#8
  ret := 0x00#8
  idx := 0#14
  pl := 0#3
  sa := 0x0000#16
  sw := 0x00#8
  ds := 0x00#8
  bind := 0#2
  pageVis := p.pageA
  pageAct := p.pageB
  cmd := none
  status := Status.clear
  fcode := 0x00#8
  lfb := []
  stage := []
  events := []
  adapter := Adapter.initial
  env := Env.initial
  romPatch := []

/-- The machine right after reset, with the default parameters of 00_scope.md R5 (log 1). -/
def State.reset : State := State.resetWith Params.default

end Sys2Proof.Machine
end

