-- ==== Sys2Proof/Machine/Flags.lean ====
section
/-! DEFINITION. The flags (10_state.md R32): the STATUS byte, the refusal codes, the predicates of BEGA, BMONO and PLNEXT, the conditions of the three waits, and the classification. No micro-operation writes a condition code as a side effect. -/

namespace Sys2Proof.Machine

/-- STATUS as the host reads it (10_state.md R23): BUSY, CFGD, UNSUP, FAULT in bits 0 to 3, bits 7:4 read as 0. -/
def Status.word (t : Status) : Byte :=
  0#4 ++ BitVec.ofBool t.fault ++ BitVec.ofBool t.unsup ++ BitVec.ofBool t.cfgd ++ BitVec.ofBool t.busy

/-- FCODE of a refusal (10_state.md R24). -/
def Reason.code : Reason → Byte
  | .illegalCommand => 1#8
  | .unboundPresent => 2#8
  | .reconfigure => 3#8
  | .busyAccess => 4#8
  | .outOfRange => 5#8

/-- `SW ∈ EGA_CODES`: equality of the 8-bit code with a member (43_detector.md R142). -/
def isEgaCode (codes : List Byte) (sw : Byte) : Bool := codes.contains sw

/-- `DS = MONO_CODE`, 8-bit equality (43_detector.md R144). -/
def isMono (ds : Byte) : Bool := ds == Config.MONO_CODE

/-- `classify(SW, DS)` (43_detector.md R162). -/
def classify (codes : List Byte) (sw ds : Byte) : Byte :=
  if isEgaCode codes sw then Config.CLASS_EGA else if isMono ds then Config.CLASS_NONE else Config.CLASS_CGA

/-- The incremented plane counter, before it is stored in 3 bits (42_ega_presenter.md R124). -/
def nextPlane (pl : BitVec 3) : Nat := pl.toNat + 1

/-- `PL + 1 < 4` (42_ega_presenter.md R124). -/
def planesLeft (pl : BitVec 3) : Bool := decide (nextPlane pl < Config.NPLANE)

/-- WVLO polls again while VR = 1 (40_sync.md R100). -/
def wvloStays (a : Adapter) : Bool := a.vr

/-- WVHI polls again while VR = 0 (40_sync.md R101). -/
def wvhiStays (a : Adapter) : Bool := !a.vr

/-- WDE polls again while DE = 1 (40_sync.md R102). -/
def wdeStays (a : Adapter) : Bool := a.de

/-- The process result the host forms from STATUS.UNSUP (44_host_interface.md R174). -/
def State.processResult (s : State) : Nat := if s.status.unsup then s.cfg.exitUnsupported else 0

/-- CLASS, the host's view of BIND (10_state.md R25). -/
def State.cls (s : State) : Byte := s.bind.setWidth 8

end Sys2Proof.Machine
end

