-- ==== Sys2Proof/Machine/Operands.lean ====
section
/-! DEFINITION. The data formats and the index arithmetic of the two presenters (30_encoding.md R83 to R92), and the operand forms of the micro-operations. -/

namespace Sys2Proof.Machine

/-! ## CGA (30_encoding.md R83 to R85) -/

/-- `pack(p0, p1) = (p1 << 4) | p0`, for 4-bit operands (R83). -/
def packByte (p0 p1 : Byte) : Byte := (p1 <<< 4) ||| p0

/-- `unpack(b) = (b[3:0], b[7:4])` (R83). -/
def unpackByte (b : Byte) : Byte × Byte := ((b.extractLsb' 0 4).setWidth 8, (b.extractLsb' 4 4).setWidth 8)

/-- A pixel value in 0 to 15 (10_state.md R11). -/
def isPixel (v : Byte) : Bool := decide (v.toNat ≤ 15)

/-- LFB index of the first pixel of pair `i` (R84); the second follows it. -/
def pairFirst (i : Nat) : Nat := 2 * i
def pairSecond (i : Nat) : Nat := 2 * i + 1

/-- Place of pair `i` in the CGA hardware buffer (R84). -/
def pairOffset (i : Nat) : Nat := 2 * i + 1

/-- The byte STAMP writes at offset `k`: GLYPH at even offsets, ATTR0 at odd ones (43_detector.md R155). -/
def stampByte (k : Nat) : Byte := if k % 2 = 0 then Config.GLYPH else Config.ATTR0

/-! ## EGA (30_encoding.md R86 to R88) -/

/-- Bit `p` of a pixel. -/
def planeBit (q : Byte) (p : Nat) : BitVec 1 := BitVec.ofBool (q.getLsbD p)

/-- `slice(q0, q1, q2, q3, p) = b0 ++ b0 ++ b1 ++ b1 ++ b2 ++ b2 ++ b3 ++ b3` (R86). -/
def sliceByte (q0 q1 q2 q3 : Byte) (p : Nat) : Byte :=
  planeBit q0 p ++ planeBit q0 p ++ planeBit q1 p ++ planeBit q1 p
    ++ planeBit q2 p ++ planeBit q2 p ++ planeBit q3 p ++ planeBit q3 p

/-- The pixel `k` of a group from its four plane bytes: `B_3[7-2k] ++ B_2[7-2k] ++ B_1[7-2k] ++ B_0[7-2k]` (R86). -/
def unslice (b0 b1 b2 b3 : Byte) (k : Nat) : BitVec 4 :=
  planeBit b3 (7 - 2 * k) ++ planeBit b2 (7 - 2 * k) ++ planeBit b1 (7 - 2 * k) ++ planeBit b0 (7 - 2 * k)

/-- Physical row of byte `n` of a plane (R87). -/
def physRow (n : Nat) : Nat := n / Config.ROWBYTES
/-- Byte within the row (R87). -/
def rowByte (n : Nat) : Nat := n % Config.ROWBYTES
/-- Logical row: every row is written twice in succession (R87). -/
def logicalRow (n : Nat) : Nat := physRow n / 2
/-- LFB index of source pixel `k` of byte `n`: `160*y + 4*g + k` (R87). -/
def sliceSource (n k : Nat) : Nat := Config.W * logicalRow n + Config.GROUP * rowByte n + k

/-- The bit number, in a plane byte, of dot column `d` (R88). -/
def dotBit (d : Nat) : Nat := 7 - d % 8
/-- The plane offset of dot column `d` of physical row `r` of the region at `page` (R88). -/
def dotOffset (page r d : Nat) : Nat := page + Config.ROWBYTES * r + d / 8

/-! ## Register values (30_encoding.md R90, R92) -/

/-- `SA[15:8]`, for the register "start address high". -/
def saHigh (sa : Word) : Byte := sa.extractLsb' 8 8
/-- `SA[7:0]`, for the register "start address low". -/
def saLow (sa : Word) : Byte := sa.extractLsb' 0 8

/-- The mode id of an SMODE selector (43_detector.md R140). -/
def selectedMode (p : Config.Params) (selector : Byte) : Byte := if selector = 0#8 then p.modeText else p.modeEga

/-- `arg[1:0]` (43_detector.md R157). -/
def bindingOf (arg : Byte) : BitVec 2 := arg.extractLsb' 0 2

end Sys2Proof.Machine
end

