-- ==== Sys2Proof/Machine/Rom.lean ====
section
/-! DEFINITION. The micro-program ROM (30_encoding.md R79) and the fetch of a micro-word (R80). -/

namespace Sys2Proof.Machine

/-- wait_vsync and the command WAITV. -/
def romSync : List (Nat × Word) :=
  [(0x01, 0x1000#16), (0x02, 0x1100#16), (0x03, 0x0300#16), (0x04, 0x0201#16), (0x05, 0x0100#16)]

/-- PRESENT with BIND = 1. -/
def romCga : List (Nat × Word) :=
  [(0x08, 0x2000#16), (0x09, 0x0201#16), (0x0A, 0x2100#16), (0x0B, 0x0100#16)]

/-- PRESENT with BIND = 2. -/
def romEga : List (Nat × Word) :=
  [(0x10, 0x3000#16), (0x11, 0x3100#16), (0x12, 0x3200#16), (0x13, 0x0611#16), (0x14, 0x3300#16), (0x15, 0x3400#16),
   (0x16, 0x1200#16), (0x17, 0x3500#16), (0x18, 0x3600#16), (0x19, 0x0201#16), (0x1A, 0x0100#16)]

/-- CONFIG to the end of its CGA branch. -/
def romConfig : List (Nat × Word) :=
  [(0x20, 0x4000#16), (0x21, 0x4100#16), (0x22, 0x0430#16), (0x23, 0x4200#16), (0x24, 0x0538#16), (0x25, 0x4300#16),
   (0x26, 0x4301#16), (0x27, 0x4302#16), (0x28, 0x4303#16), (0x29, 0x0201#16), (0x2A, 0x4400#16), (0x2B, 0x4500#16),
   (0x2C, 0x4601#16), (0x2D, 0x4701#16), (0x2E, 0x0100#16)]

/-- CONFIG's EGA branch, its failure branch, and the command RESTORE. -/
def romBranches : List (Nat × Word) :=
  [(0x30, 0x4001#16), (0x31, 0x4602#16), (0x32, 0x4500#16), (0x33, 0x4702#16), (0x34, 0x0100#16),
   (0x38, 0x4700#16), (0x39, 0x0100#16), (0x3C, 0x4000#16), (0x3D, 0x0100#16)]

/-- The 45 listed words of 30_encoding.md R79. -/
def romListing : List (Nat × Word) :=
  [(0x00, 0x0000#16)] ++ romSync ++ romCga ++ romEga ++ romConfig ++ romBranches

/-- The reserved word that every address not listed holds (R74, R79). -/
def reservedFill : Word := 0xFFFF#16

/-- The ROM under the words placed over it. -/
def romWord (patch : List (Nat × Word)) (addr : Byte) : Word :=
  ((patch ++ romListing).lookup addr.toNat).getD reservedFill

/-- The micro-word at ROM address UPC (30_encoding.md R80). -/
def State.fetchWord (s : State) : Word := romWord s.romPatch s.upc

end Sys2Proof.Machine
end

