-- ==== Sys2Proof/Machine/Ops.lean ====
section
/-! DEFINITION. The named operations over memories, registers, the adapter and the service (20_memory.md R41 to R48), `raise` (60_exceptions.md R194), the adapter's moves (10_state.md R28), and reset (70_reset_and_hazards.md R220). -/

namespace Sys2Proof.Machine

open Sys2Proof.Config (Space Params)

/-! ## One byte memory -/

/-- The byte written at `a`, if one was since the contents became unspecified. -/
def Memory.read? : Memory → Nat → Option Byte
  | [], _ => none
  | (b, v) :: m, a => if a = b then some v else Memory.read? m a

/-- Store `v` at `a`, keeping the offsets strictly rising. -/
def Memory.write : Memory → Nat → Byte → Memory
  | [], a, v => [(a, v)]
  | (b, w) :: m, a, v =>
    if a < b then (a, v) :: (b, w) :: m
    else if a = b then (a, v) :: m
    else (b, w) :: Memory.write m a v

/-- The canonical form: offsets strictly rising. An unlisted offset has no value, so no entry can equal it. -/
def Memory.wf : Memory → Bool
  | [] => true
  | (a, _) :: m => m.all (fun c => decide (a < c.1)) && Memory.wf m

/-- Every offset listed is below `n`. -/
def Memory.below (n : Nat) (m : Memory) : Bool := m.all (fun c => decide (c.1 < n))

/-- The plane with number `p`. -/
def EgaPlanes.plane (e : EgaPlanes) : Fin 4 → Memory
  | 0 => e.p0
  | 1 => e.p1
  | 2 => e.p2
  | 3 => e.p3

/-- Store `v` at `a` in plane `p`. -/
def EgaPlanes.write (e : EgaPlanes) (p : Fin 4) (a : Nat) (v : Byte) : EgaPlanes :=
  match p with
  | 0 => { e with p0 := e.p0.write a v }
  | 1 => { e with p1 := e.p1.write a v }
  | 2 => { e with p2 := e.p2.write a v }
  | 3 => { e with p3 := e.p3.write a v }

/-- Planes of which nothing has been written. -/
def EgaPlanes.unwritten : EgaPlanes := ⟨[], [], [], []⟩

/-- The colour of dot column `d` of physical row `r` of the region at `page`: that bit of planes 3, 2, 1, 0 in this order of significance (30_encoding.md R88), where all four bytes were written. -/
def EgaPlanes.dotColour (e : EgaPlanes) (page r d : Nat) : Option (BitVec 4) :=
  match e.p3.read? (dotOffset page r d), e.p2.read? (dotOffset page r d), e.p1.read? (dotOffset page r d), e.p0.read? (dotOffset page r d) with
  | some b3, some b2, some b1, some b0 =>
    some (planeBit b3 (dotBit d) ++ planeBit b2 (dotBit d) ++ planeBit b1 (dotBit d) ++ planeBit b0 (dotBit d))
  | _, _, _, _ => none

/-! ## The spaces (20_memory.md R40 to R44) -/

/-- How many bytes a space has (for EGAHW: behind one offset range). -/
def State.sizeOf (s : State) : Space → Nat
  | .lfb => Config.NPIX
  | .stage => Config.NPAIR
  | .cgahw => Config.CGA_SIZE
  | .egahw => s.cfg.egaPlaneSize

/-- Answer `r` if the space has the offset, else the fault that names it. -/
def checked (sp : Space) (off : Nat) (s : State) (r : Result) : Result :=
  if off < s.sizeOf sp then r else .fault (.offsetOutOfRange sp off)

/-- `MemRead(LFB, i, 1)` (R41). A cell nothing has written since reset holds a free value (log 4). -/
def State.lfbAt (s : State) (i : Nat) : Byte := (s.lfb.read? i).getD (Config.unwrittenCell .lfb s.env.resetCount i)

/-- `MemWrite(LFB, i, 1, v)` (R41): no event. -/
def State.writeLfb (s : State) (i : Nat) (v : Byte) : State := { s with lfb := s.lfb.write i v }

/-- `STAGE[i]` (R42). A cell nothing has written since reset holds a free value (log 4). -/
def State.stageAt (s : State) (i : Nat) : Byte := (s.stage.read? i).getD (Config.unwrittenCell .stage s.env.resetCount i)

/-- `STAGE[i] <- v` (R42): no event. -/
def State.writeStage (s : State) (i : Nat) (v : Byte) : State := { s with stage := s.stage.write i v }

/-- `MemWrite(CGAHW, off, 1, v)` (R43). -/
def State.writeCga (s : State) (off : Nat) (v : Byte) : State :=
  { s with adapter := { s.adapter with cgahw := s.adapter.cgahw.write off v }, events := .hwWriteCga off v :: s.events }

/-- `MemWrite(EGAHW, a, 1, v)` while ADP_PLANE is `p` (R44): the byte reaches the selected plane unchanged (log 20). -/
def State.writeEga (s : State) (p : Fin 4) (a : Nat) (v : Byte) : State :=
  { s with adapter := { s.adapter with egahw := s.adapter.egahw.write p a v }, events := .hwWriteEga p a v :: s.events }

/-! ## Register writes and the status read (20_memory.md R45, R46) -/

/-- `CrtcWrite(r, v)`. -/
def State.crtcWrite (s : State) (r v : Byte) : State :=
  { s with adapter := { s.adapter with crtc := s.adapter.crtc.write r.toNat v }, events := .crtcWrite r v :: s.events }

/-- `PlaneSelect(p)`. -/
def State.planeSelect (s : State) (p : Fin 4) : State :=
  { s with adapter := { s.adapter with plane := some p }, events := .planeSelect p :: s.events }

/-- `StatusRead()`: the lines as they are at this step; the event is its whole effect. -/
def State.statusRead (s : State) : State :=
  { s with events := .statusRead s.adapter.vr s.adapter.de :: s.events }

/-- ADP_CRTC[r]. A register nothing has written since the last mode request holds a free value (log 9). -/
def State.crtcAt (s : State) (r : Byte) : Byte := (s.adapter.crtc.read? r.toNat).getD (Config.unwrittenCrtc s.env.modeCount r)

/-- `ADP_SAH ++ ADP_SAL` (10_state.md R26, R28). -/
def State.startAddress (s : State) : Word := s.crtcAt s.cfg.crtcIdxSah ++ s.crtcAt s.cfg.crtcIdxSal

/-! ## The display-mode service (20_memory.md R47) -/

/-- ADP_CRTC with the start address `a` in its two registers and everything else unspecified (E1). -/
def startAddressRegs (p : Params) (a : Word) : Memory :=
  (Memory.write [] p.crtcIdxSah.toNat (saHigh a)).write p.crtcIdxSal.toNat (saLow a)

/-- `Svc.set_mode(m)` with assumption E1 (log 10). -/
def State.svcSetMode (s : State) (m : Byte) : State :=
  { s with
    events := .setMode m :: s.events
    adapter := { s.adapter with
      mode := m
      plane := none
      cgahw := []
      egahw := EgaPlanes.unwritten
      crtc := if m = s.cfg.modeEga then startAddressRegs s.cfg s.cfg.pageA else []
      saLatched := if m = s.cfg.modeEga then s.cfg.pageA else Config.latchAfterMode (s.env.modeCount + 1) }
    env := { s.env with modeCount := s.env.modeCount + 1 } }

/-- The service's next answer: the one listed, or a free value (log 6). -/
def nextAnswer (answers : List Byte) (count : Nat) : Byte := answers.head?.getD (Config.freeByte count)

/-- The count of free bytes after a service answer. -/
def countAfterAnswer (answers : List Byte) (count : Nat) : Nat := if answers.isEmpty then count + 1 else count

/-- `SW <- Svc.get_adapter_switches()` (43_detector.md R141). -/
def State.askSwitches (s : State) : State :=
  let c := nextAnswer s.env.swAnswers s.env.freeCount
  { s with
    sw := c
    events := .querySwitches c :: s.events
    env := { s.env with swAnswers := s.env.swAnswers.tail, freeCount := countAfterAnswer s.env.swAnswers s.env.freeCount } }

/-- `DS <- Svc.get_current_display_settings()` (43_detector.md R143). -/
def State.askSettings (s : State) : State :=
  let c := nextAnswer s.env.dsAnswers s.env.freeCount
  { s with
    ds := c
    events := .querySettings c :: s.events
    env := { s.env with dsAnswers := s.env.dsAnswers.tail, freeCount := countAfterAnswer s.env.dsAnswers s.env.freeCount } }

/-! ## The sequencer (10_state.md R14 to R16) -/

/-- `emit e` (20_memory.md R48). -/
def State.emit (s : State) (e : Event) : State := { s with events := e :: s.events }

/-- `UPC <- a`. -/
def State.jump (s : State) (a : Byte) : State := { s with upc := a }

/-- `UPC <- UPC + 1` (8 bits, log 16). -/
def State.advance (s : State) : State := { s with upc := s.upc + 1#8 }

/-- Stay at this micro-operation, or go on to the next one. -/
def State.advanceUnless (s : State) (stay : Bool) : State := { s with upc := if stay then s.upc else s.upc + 1#8 }

/-- `UPC <- taken ? a : UPC + 1`. -/
def State.branch (s : State) (taken : Bool) (a : Byte) : State := { s with upc := if taken then a else s.upc + 1#8 }

/-- The end of a loop step: `if IDX = last then IDX <- 0 ; UPC <- UPC + 1 else IDX <- IDX + 1` (R16). -/
def State.loopNext (s : State) (last : Nat) : State :=
  { s with
    idx := if s.idx.toNat = last then 0#14 else s.idx + 1#14
    upc := if s.idx.toNat = last then s.upc + 1#8 else s.upc }

/-! ## Refusals: the one shared operation (60_exceptions.md R194) -/

/-- `raise <Reason>`: FCODE keeps the first reason, FAULT is sticky, nothing else changes. There is no return from it (R193). -/
def State.raise (s : State) (r : Reason) : State :=
  { s with
    events := .refused r :: s.events
    fcode := if s.status.fault then s.fcode else r.code
    status := { s.status with fault := true } }

/-- Accept a command: BUSY ← 1, UPC ← its entry (44_host_interface.md R170). -/
def State.accept (s : State) (entry : Byte) : State := { s with status := { s.status with busy := true }, upc := entry }

/-- Complete a command (44_host_interface.md R171). -/
def State.complete (s : State) : State :=
  { s with events := .done :: s.events, status := { s.status with busy := false }, upc := 0x00#8 }

/-- `Report(c)`: CFGD ← 1, and UNSUP ← 1 if `c = 0`, the error AdapterUnsupported (43_detector.md R158, 60_exceptions.md R191). -/
def State.reportClass (s : State) (c : Byte) : State :=
  { s with
    events := .report c :: s.events
    status := { s.status with cfgd := true, unsup := s.status.unsup || c == Config.CLASS_NONE } }

/-- Count a free byte or plane number, if the step used one. -/
def State.countFree (s : State) (used : Bool) : State :=
  { s with env := { s.env with freeCount := if used then s.env.freeCount + 1 else s.env.freeCount } }

/-! ## What the host sees -/

/-- The value a host read returns; no other effect (10_state.md R25, 44_host_interface.md R177). -/
def State.reply (s : State) (v : Option Word) : State := { s with env := { s.env with hostReply := v } }

/-- The moves left after one is taken. -/
def State.withInputs (s : State) (rest : List Input) : State := { s with env := { s.env with inputs := rest } }

/-! ## The adapter's moves (10_state.md R27, R28) -/

/-- The lines change to `vr`, `de`; at a change of VR from 0 to 1 the adapter latches the start address (log 8, log 9). -/
def State.driveLines (s : State) (vr de : Bool) : State :=
  { s with adapter := { s.adapter with
      vr := vr
      de := de
      saLatched := if !s.adapter.vr && vr then s.startAddress else s.adapter.saLatched } }

/-- The adapter drives any levels (log 7): VR and DE may take any values for ever (70_reset_and_hazards.md R236). -/
def State.freeLines (s : State) : State :=
  { s.driveLines (Config.freeLines s.env.lineCount).1 (Config.freeLines s.env.lineCount).2 with
    env := { s.env with lineCount := s.env.lineCount + 1 } }

/-! ## Reset (70_reset_and_hazards.md R220, R221) -/

/-- Every piece of block state takes its reset value; nothing of the adapter is touched (log 18). -/
def State.blockReset (s : State) : State :=
  { State.resetWith s.cfg with
    adapter := s.adapter
    env := { s.env with resetCount := s.env.resetCount + 1 }
    romPatch := s.romPatch }

end Sys2Proof.Machine
end

