-- ==== Sys2Proof/Machine/Cga.lean ====
section
/-! DEFINITION. The CGA presenter (41_cga_presenter.md): PACK and COPY. -/

namespace Sys2Proof.Machine

/-- `STAGE[i] <- pack(LFB[2i], LFB[2i+1])`; where a cell of the pair is above 15 the packed byte is a fresh free value (30_encoding.md R89; log 5). -/
def State.packPair (s : State) (i : Nat) : State :=
  if isPixel (s.lfbAt (pairFirst i)) && isPixel (s.lfbAt (pairSecond i)) then
    s.writeStage i (packByte (s.lfbAt (pairFirst i)) (s.lfbAt (pairSecond i)))
  else
    { s.writeStage i (Config.freeByte s.env.freeCount) with env := { s.env with freeCount := s.env.freeCount + 1 } }

/-- PACK (R110), one of its 8000 steps. -/
def execPack (s : State) : Result :=
  checked .lfb (pairSecond s.idx.toNat) s <| checked .stage s.idx.toNat s <|
    .next ((s.packPair s.idx.toNat).loopNext 7999)

/-- COPY (R111), one of its 8000 steps. -/
def execCopy (s : State) : Result :=
  checked .stage s.idx.toNat s <| checked .cgahw (pairOffset s.idx.toNat) s <|
    .next ((s.writeCga (pairOffset s.idx.toNat) (s.stageAt s.idx.toNat)).loopNext 7999)

end Sys2Proof.Machine
end

