-- ==== Sys2Proof/Machine/HostInterface.lean ====
section
/-! DEFINITION. The host interface (44_host_interface.md R170 to R177): command acceptance, IDLE and DONE, the commands PRESENT and RESTORE, and the host's accesses to the LFB and to H1 to H5. -/

namespace Sys2Proof.Machine

/-- The body of IDLE on a host write `CMD <- c` (R170): the event, then the case on `c`. -/
def State.dispatchCommand (s : State) (c : Byte) : State :=
  let e := s.emit (.cmd c)
  if c = 0x01#8 then (if s.status.cfgd then e.raise .reconfigure else e.accept 0x20#8)
  else if c = 0x02#8 then
    (if s.bind = 1#2 then e.accept 0x08#8 else if s.bind = 2#2 then e.accept 0x10#8 else e.raise .unboundPresent)
  else if c = 0x03#8 then e.accept 0x04#8
  else if c = 0x04#8 then e.accept 0x3C#8
  else e.raise .illegalCommand

/-- IDLE (R170): it consumes the byte written to CMD; without a write the block stays as it is (log 11). -/
def execIdle (s : State) : Result :=
  match s.cmd with
  | none => .next s
  | some c => .next ({ s with cmd := none }.dispatchCommand c)

/-- DONE (R171). -/
def execDone (s : State) : Result := .next s.complete

/-- The host writes `CMD <- c`: BUSY is tested first (60_exceptions.md R198, R201 (b)), then IDLE takes the byte (log 12). -/
def hostWriteCmd (c : Byte) (s : State) : Result :=
  if s.status.busy then .next (s.raise .busyAccess) else execIdle { s with cmd := some c }

/-- PRESENT, the command (R172). -/
def execPresent (s : State) : Result := hostWriteCmd 0x02#8 s

/-- RESTORE, the command (R173). -/
def execRestore (s : State) : Result := hostWriteCmd 0x04#8 s

/-- The priority of an LFB access (R176, R177; 60_exceptions.md R201 (c)): BUSY first, then the index. -/
def lfbAccessRefusal (i : Nat) (s : State) : Option Reason :=
  if s.status.busy then some .busyAccess else if Config.NPIX ≤ i then some .outOfRange else none

/-- `LFBW i, v` (R176): `v` is not checked. -/
def hostLfbWrite (i : Nat) (v : Byte) (s : State) : State :=
  match lfbAccessRefusal i s with
  | some r => s.raise r
  | none => s.writeLfb i v

/-- `LFBR i` (R177): a refused read returns no value. -/
def hostLfbRead (i : Nat) (s : State) : State :=
  match lfbAccessRefusal i s with
  | some r => (s.raise r).reply none
  | none => s.reply (some ((s.lfbAt i).setWidth 16))

/-- The content of H1 to H5 (10_state.md R25). -/
def hostRegValue (r : HostReg) (s : State) : Word :=
  match r with
  | .status => s.status.word.setWidth 16
  | .cls => s.cls.setWidth 16
  | .fcode => s.fcode.setWidth 16
  | .pageVis => s.pageVis
  | .pageAct => s.pageAct

/-- `RD reg`: allowed at any time, no side effect (10_state.md R25, 44_host_interface.md R175). -/
def hostReadReg (r : HostReg) (s : State) : State := s.reply (some (hostRegValue r s))

/-- A host write to H1 to H5 is ignored (10_state.md R25). -/
def hostWriteReg (_ : HostReg) (_ : Word) (s : State) : State := s

end Sys2Proof.Machine
end

