-- ==== Sys2Proof/Machine/Detector.lean ====
section
/-! DEFINITION. The detector and configurator (43_detector.md): SMODE, QSW, BEGA, QDS, BMONO, CRTCW, STAMP, LFBCLR, BIND, REPORT and the command CONFIG. -/

namespace Sys2Proof.Machine

/-- An argument outside the row's legal values makes the word reserved (30_encoding.md R74; log 14). -/
def reservedWord (op arg : Byte) : Result := .fault (.reservedMicroWord (op ++ arg))

/-- CONFIG, the command (R160). -/
def execConfig (s : State) : Result := hostWriteCmd 0x01#8 s

/-- SMODE (R140). -/
def execSmode (selector : Byte) (s : State) : Result :=
  if selector.toNat ≤ 1 then .next (s.svcSetMode (selectedMode s.cfg selector)).advance else reservedWord 0x40#8 selector

/-- QSW (R141). -/
def execQsw (s : State) : Result := .next s.askSwitches.advance

/-- BEGA (R142). -/
def execBega (target : Byte) (s : State) : Result := .next (s.branch (isEgaCode s.cfg.egaCodes s.sw) target)

/-- QDS (R143). -/
def execQds (s : State) : Result := .next s.askSettings.advance

/-- BMONO (R144). -/
def execBmono (target : Byte) (s : State) : Result := .next (s.branch (isMono s.ds) target)

/-- CRTCW (R145, 30_encoding.md R92). -/
def execCrtcw (slot : Byte) (s : State) : Result :=
  if h : slot.toNat < 4 then .next (s.crtcWrite s.cfg.crtcIdx[slot.toNat] s.cfg.crtcVal[slot.toNat]).advance
  else reservedWord 0x43#8 slot

/-- STAMP (R155), one of its 16000 steps. -/
def execStamp (s : State) : Result :=
  checked .cgahw s.idx.toNat s (.next ((s.writeCga s.idx.toNat (stampByte s.idx.toNat)).loopNext 15999))

/-- LFBCLR (R156), one of its 16000 steps. -/
def execLfbclr (s : State) : Result :=
  checked .lfb s.idx.toNat s (.next ((s.writeLfb s.idx.toNat 0x00#8).loopNext 15999))

/-- BIND (R157). -/
def execBind (binding : Byte) (s : State) : Result :=
  if binding = 1#8 ∨ binding = 2#8 then .next { s with bind := bindingOf binding }.advance else reservedWord 0x46#8 binding

/-- REPORT (R158). -/
def execReport (cls : Byte) (s : State) : Result :=
  if cls.toNat ≤ 2 then .next (s.reportClass cls).advance else reservedWord 0x47#8 cls

end Sys2Proof.Machine
end

