-- ==== Sys2Proof/Machine/Ega.lean ====
section
/-! DEFINITION. The EGA presenter (42_ega_presenter.md): PLINIT, PSEL, SLICE, PLNEXT, SWAP, SADDR, SAHI, SALO. -/

namespace Sys2Proof.Machine

/-- PL as a plane number, if it is one (20_memory.md R46 "p = 0 to 3"). -/
def planeOf (pl : BitVec 3) : Option (Fin 4) :=
  if h : pl.toNat < 4 then some ⟨pl.toNat, h⟩ else none

/-- PLINIT (R120). -/
def execPlinit (s : State) : Result := .next { s with pl := 0#3 }.advance

/-- The plane PSEL selects: PL where it is a plane number, else a free one (log 21). -/
def State.planeCountedOrFree (s : State) : Fin 4 := (planeOf s.pl).getD (Config.freePlane s.env.freeCount)

/-- PSEL (R121). -/
def execPsel (s : State) : Result := .next ((s.planeSelect s.planeCountedOrFree).countFree (planeOf s.pl).isNone).advance

/-- The byte SLICE forms at byte number `n` of plane `p` (R122, 30_encoding.md R86, R87). -/
def State.sliceAt (s : State) (n p : Nat) : Byte :=
  sliceByte (s.lfbAt (sliceSource n 0)) (s.lfbAt (sliceSource n 1)) (s.lfbAt (sliceSource n 2)) (s.lfbAt (sliceSource n 3)) p

/-- The plane offset SLICE writes at byte number `n`: `PAGE_ACT + n` (R122). -/
def State.sliceOffset (s : State) (n : Nat) : Nat := s.pageAct.toNat + n

/-- The byte SLICE writes at byte number `n`: that of plane PL where PL is a plane number, else a free one, since R86 gives the byte for planes 0 to 3 only (log 21). -/
def State.sliceValue (s : State) (n : Nat) : Byte :=
  match planeOf s.pl with
  | some p => s.sliceAt n p.val
  | none => Config.freeByte s.env.freeCount

/-- The write of one SLICE step, into the selected plane (20_memory.md R44; log 20). -/
def State.sliceWrite (s : State) (n : Nat) : Result :=
  match s.adapter.plane with
  | none => .fault .planeUnset
  | some q => .next (((s.writeEga q (s.sliceOffset n) (s.sliceValue n)).countFree (planeOf s.pl).isNone).loopNext 7999)

/-- SLICE (R122), one of its 8000 steps a plane. -/
def execSlice (s : State) : Result :=
  checked .lfb (sliceSource s.idx.toNat 3) s <| checked .egahw (s.sliceOffset s.idx.toNat) s <| s.sliceWrite s.idx.toNat

/-- PLNEXT (R124): the test is on the incremented value; PL keeps its low 3 bits (log 16). -/
def execPlnext (target : Byte) (s : State) : Result :=
  .next ({ s with pl := BitVec.ofNat 3 (nextPlane s.pl) }.branch (planesLeft s.pl) target)

/-- SWAP (R125): both right-hand sides are the values before the step. -/
def execSwap (s : State) : Result := .next { s with pageVis := s.pageAct, pageAct := s.pageVis }.advance

/-- SADDR (R126): the page offset is the start address (30_encoding.md R90). -/
def execSaddr (s : State) : Result := .next { s with sa := s.pageVis }.advance

/-- SAHI (R127). -/
def execSahi (s : State) : Result := .next (s.crtcWrite s.cfg.crtcIdxSah (saHigh s.sa)).advance

/-- SALO (R128). -/
def execSalo (s : State) : Result := .next (s.crtcWrite s.cfg.crtcIdxSal (saLow s.sa)).advance

end Sys2Proof.Machine
end

