-- ==== Sys2Proof/Machine/Sync.lean ====
section
/-! DEFINITION. The Sync unit (40_sync.md): the three waits, the micro-subroutine linkage, and the command WAITV. -/

namespace Sys2Proof.Machine

/-- WVLO (R100): one poll; stay while VR = 1. -/
def execWvlo (s : State) : Result := .next (s.statusRead.advanceUnless (wvloStays s.adapter))

/-- WVHI (R101): one poll; stay while VR = 0. -/
def execWvhi (s : State) : Result := .next (s.statusRead.advanceUnless (wvhiStays s.adapter))

/-- WDE (R102): one poll; stay while DE = 1. -/
def execWde (s : State) : Result := .next (s.statusRead.advanceUnless (wdeStays s.adapter))

/-- CALL (R103): `RET <- UPC + 1 ; UPC <- arg`. -/
def execCall (target : Byte) (s : State) : Result := .next ({ s with ret := s.upc + 1#8 }.jump target)

/-- RET (R106): `UPC <- RET`; RET is read, not cleared. -/
def execRet (s : State) : Result := .next (s.jump s.ret)

/-- WAITV, the command (R105). -/
def execWaitv (s : State) : Result := hostWriteCmd 0x03#8 s

end Sys2Proof.Machine
end

