-- ==== Sys2Proof/Machine/Dispatch.lean ====
section
/-! DEFINITION. Dispatch: one arm per instruction, each one direct call of its meaning. -/

namespace Sys2Proof.Machine

def exec (i : Instr) (s : State) : Host.Outcome State Fault Refusal :=
  match i with
  | .config => Sys2Proof.Machine.execConfig s
  | .present => Sys2Proof.Machine.execPresent s
  | .waitv => Sys2Proof.Machine.execWaitv s
  | .restore => Sys2Proof.Machine.execRestore s
  | .idle => Sys2Proof.Machine.execIdle s
  | .done => Sys2Proof.Machine.execDone s
  | .call target => Sys2Proof.Machine.execCall target s
  | .ret => Sys2Proof.Machine.execRet s
  | .bega target => Sys2Proof.Machine.execBega target s
  | .bmono target => Sys2Proof.Machine.execBmono target s
  | .plnext target => Sys2Proof.Machine.execPlnext target s
  | .wvlo => Sys2Proof.Machine.execWvlo s
  | .wvhi => Sys2Proof.Machine.execWvhi s
  | .wde => Sys2Proof.Machine.execWde s
  | .pack => Sys2Proof.Machine.execPack s
  | .copy => Sys2Proof.Machine.execCopy s
  | .plinit => Sys2Proof.Machine.execPlinit s
  | .psel => Sys2Proof.Machine.execPsel s
  | .slice => Sys2Proof.Machine.execSlice s
  | .swap => Sys2Proof.Machine.execSwap s
  | .saddr => Sys2Proof.Machine.execSaddr s
  | .sahi => Sys2Proof.Machine.execSahi s
  | .salo => Sys2Proof.Machine.execSalo s
  | .smode selector => Sys2Proof.Machine.execSmode selector s
  | .qsw => Sys2Proof.Machine.execQsw s
  | .qds => Sys2Proof.Machine.execQds s
  | .crtcw slot => Sys2Proof.Machine.execCrtcw slot s
  | .stamp => Sys2Proof.Machine.execStamp s
  | .lfbclr => Sys2Proof.Machine.execLfbclr s
  | .bind binding => Sys2Proof.Machine.execBind binding s
  | .report cls => Sys2Proof.Machine.execReport cls s

end Sys2Proof.Machine
end

