-- ==== Sys2Proof/Machine/Ports.lean ====
section
/-! DEFINITION. The port level (20_memory.md R43 to R46, 60_exceptions.md R206): how the adapter's status byte gives the lines, and what an event is on the bus. A view of the events, never split into steps (log 19). -/

namespace Sys2Proof.Machine

open Sys2Proof.Config (Params)

/-- `vr = ((b & VR_MASK) ≠ 0)` (R45). -/
def statusVr (p : Params) (b : Byte) : Bool := (b &&& p.vrMask) != 0#8

/-- `de = (((b & DE_MASK) ≠ 0) = (DE_BIT_WHEN_SCANNING = 1))` (R45). -/
def statusDe (p : Params) (b : Byte) : Bool := ((b &&& p.deMask) != 0#8) == p.deBitWhenScanning

/-- The adapter drives its lines as the status byte `b` says (R45). -/
def State.driveStatusByte (s : State) (b : Byte) : State := s.driveLines (statusVr s.cfg b) (statusDe s.cfg b)

/-- One access at port or bus level. -/
inductive BusAccess where
  | portWrite (port : Nat) (v : Byte)
  | portRead (port : Nat)
  | memWrite (addr : Nat) (v : Byte)
deriving DecidableEq, Repr

/-- The value on the plane-select data port for plane `p`: `1 << p` (R46). -/
def planeMask (p : Fin 4) : Byte := 1#8 <<< p.val

/-- The bus accesses an event stands for: a register write is an index/data pair, a hardware-buffer write goes to the base plus the offset (R43 to R46). Service calls and the host's side have none. -/
def busView (p : Params) : Event → List BusAccess
  | .statusRead _ _ => [.portRead p.portStatus]
  | .crtcWrite r v => [.portWrite p.portCrtcIndex r, .portWrite p.portCrtcData v]
  | .planeSelect q => [.portWrite p.portSeqIndex p.seqIdxMapmask, .portWrite p.portSeqData (planeMask q)]
  | .hwWriteCga off v => [.memWrite (p.cgaBase + off) v]
  | .hwWriteEga _ a v => [.memWrite (p.egaBase + a) v]
  | .cmd _ | .setMode _ | .querySwitches _ | .querySettings _ | .report _ | .done | .refused _ => []

end Sys2Proof.Machine
end

