-- ==== Sys2Proof/Machine/Agents.lean ====
section
/-! DEFINITION. What each agent does when it moves (00_scope.md R8): the block's step (30_encoding.md R80), the host's action, the adapter's move, reset; and how an instruction is placed where the next step takes it (log 13). -/

namespace Sys2Proof.Machine

/-- One step of the block: read the micro-word at UPC, decode it, run it (30_encoding.md R80). A reserved word leaves the block stuck (R74). -/
def blockStep (s : State) : Result :=
  match decodeMicro s.fetchWord with
  | .ok i => exec i s
  | .error _ => .fault (.reservedMicroWord s.fetchWord)

/-- A write to CMD: a command byte runs as its instruction; a reserved byte goes the same way to its refusal (30_encoding.md R71). -/
def commandStep (c : Byte) (s : State) : Result :=
  match decodeCommand c with
  | .ok i => exec i s
  | .error _ => hostWriteCmd c s

/-- One action of the host (44_host_interface.md R175 to R177). -/
def hostStep (a : HostAction) (s : State) : Result :=
  match a with
  | .writeCmd c => commandStep c s
  | .lfbWrite i v => .next (hostLfbWrite i v s)
  | .lfbRead i => .next (hostLfbRead i s)
  | .readReg r => .next (hostReadReg r s)
  | .writeReg r v => .next (hostWriteReg r v s)

/-- One move of one agent. -/
def agentStep (m : Input) (s : State) : Result :=
  match m with
  | .block => blockStep s
  | .lines vr de => .next (s.driveLines vr de)
  | .statusByte b => .next (s.driveStatusByte b)
  | .host a => hostStep a s
  | .reset => .next s.blockReset

/-- The host's next action is to write the command byte `b`. -/
def placeCommand (s : State) (b : Byte) : State := s.withInputs (.host (.writeCmd b) :: s.env.inputs)

/-- The block moves next, and the word at UPC is `w`. -/
def placeMicroWord (s : State) (w : Word) : State :=
  { s.withInputs (.block :: s.env.inputs) with romPatch := (s.upc.toNat, w) :: s.romPatch }

end Sys2Proof.Machine
end

