-- ==== Sys2Proof/Machine/Step.lean ====
section
/-! DEFINITION. One step: the next move listed in `env.inputs`, and with none listed the adapter drives any levels and the block steps (log 7). -/

namespace Sys2Proof.Machine

/-- One step of the machine. -/
def step (s : State) : Host.Outcome State Fault Refusal :=
  match s.env.inputs with
  | [] => blockStep s.freeLines
  | m :: rest => agentStep m (s.withInputs rest)

/-- `s` with the instruction of `nbits` bits `w` placed where the next step takes it (log 13): a row of 8 bits is a command byte, one of 16 bits a micro-word. -/
def State.withFetchWord (s : State) (nbits w : Nat) : State :=
  if nbits = 8 then placeCommand s (BitVec.ofNat 8 w) else placeMicroWord s (BitVec.ofNat 16 w)

end Sys2Proof.Machine
end

