-- ==== Sys2Proof/Safety.lean ====
section
/-! DEFINITION. What counts as a sound state and a safe run, in the terms claims use: the canonical form of the memories, the page pair (10_state.md R22), the glyph bytes (R29), the phase of the micro-program (30_encoding.md R79), and the host's duties (44_host_interface.md R179). -/

namespace Sys2Proof.Machine

/-- The memory is in canonical form and lists only offsets below `n`. -/
def Memory.sound (n : Nat) (m : Memory) : Bool := m.wf && m.below n

/-- Every memory is in canonical form inside its space. -/
def State.memSound (s : State) : Bool :=
  s.lfb.sound Config.NPIX && s.stage.sound Config.NPAIR && s.adapter.cgahw.sound Config.CGA_SIZE && s.adapter.crtc.sound 256
  && s.adapter.egahw.p0.sound s.cfg.egaPlaneSize && s.adapter.egahw.p1.sound s.cfg.egaPlaneSize
  && s.adapter.egahw.p2.sound s.cfg.egaPlaneSize && s.adapter.egahw.p3.sound s.cfg.egaPlaneSize

/-- `{PAGE_VIS, PAGE_ACT} = {PAGE_A, PAGE_B}` (10_state.md R22). -/
def State.pagePair (s : State) : Prop :=
  (s.pageVis = s.cfg.pageA ∧ s.pageAct = s.cfg.pageB) ∨ (s.pageVis = s.cfg.pageB ∧ s.pageAct = s.cfg.pageA)

/-- Every even offset of CGAHW that has been written since the last mode request holds GLYPH (10_state.md R29). -/
def State.glyphsKept (s : State) : Prop :=
  ∀ i v, s.adapter.cgahw.read? (2 * i) = some v → v = Config.GLYPH

/-- Outside CONFIG the flags and the binding agree: no CONFIG yet, or a failed one, or one presenter bound (43_detector.md R161). -/
def State.settled (s : State) : Bool :=
  (s.bind == 0#2 && s.status.cfgd == s.status.unsup)
  || ((s.bind == 1#2 || s.bind == 2#2) && s.status.cfgd && !s.status.unsup)

/-- Inside CONFIG, before its binding: nothing bound, nothing reported. -/
def State.configuring (s : State) : Bool := s.bind == 0#2 && !s.status.cfgd && !s.status.unsup

/-- Inside CONFIG, `b` bound and not yet reported. -/
def State.binding (s : State) (b : BitVec 2) : Bool := s.bind == b && !s.status.cfgd && !s.status.unsup

/-- The presenter `b` is bound and CONFIG has completed. -/
def State.bound (s : State) (b : BitVec 2) : Bool := s.bind == b && s.status.cfgd && !s.status.unsup

/-- Where the wait_vsync subroutine returns to, with what holds there (30_encoding.md R79 "Return addresses"). -/
def State.returnOk (s : State) : Bool :=
  (s.ret == 0x05#8 && s.settled) || (s.ret == 0x0A#8 && s.bound 1#2)
  || (s.ret == 0x1A#8 && s.bound 2#2) || (s.ret == 0x2A#8 && s.configuring)

/-- The plane counter is a plane number. -/
def State.planeCounted (s : State) : Bool := decide (s.pl.toNat < 4)

/-- The plane selected is the one counted (42_ega_presenter.md R122 (e)). -/
def State.planeSelected (s : State) : Bool := s.adapter.plane.map (·.val) == some s.pl.toNat

/-- IDX = 0, as outside the five loops (10_state.md R16). -/
def State.idxZero (s : State) : Bool := s.idx == 0#14

/-- IDX is inside a loop of `n` steps. -/
def State.idxBelow (s : State) (n : Nat) : Bool := decide (s.idx.toNat < n)

/-- What holds at each listed ROM address (30_encoding.md R79); no other address is reached. -/
def State.phaseOk (s : State) : Bool :=
  match s.upc.toNat with
  | 0x00 | 0x04 | 0x05 | 0x3C | 0x3D => s.idxZero && s.settled
  | 0x01 | 0x02 | 0x03 => s.idxZero && s.returnOk
  | 0x08 | 0x0A => s.idxBelow 8000 && s.bound 1#2
  | 0x09 | 0x0B => s.idxZero && s.bound 1#2
  | 0x11 => s.idxZero && s.bound 2#2 && s.planeCounted
  | 0x12 => s.idxBelow 8000 && s.bound 2#2 && s.planeCounted && s.planeSelected
  | 0x13 => s.idxZero && s.bound 2#2 && s.planeCounted
  | 0x10 | 0x14 | 0x15 | 0x16 | 0x17 | 0x18 | 0x19 | 0x1A => s.idxZero && s.bound 2#2
  | 0x20 | 0x21 | 0x22 | 0x23 | 0x24 | 0x25 | 0x26 | 0x27 | 0x28 | 0x29 | 0x2C | 0x30 | 0x31 | 0x38 => s.idxZero && s.configuring
  | 0x2A | 0x2B => s.idxBelow 16000 && s.configuring
  | 0x2D => s.idxZero && s.binding 1#2
  | 0x2E => s.idxZero && s.bound 1#2
  | 0x32 => s.idxBelow 16000 && s.binding 2#2
  | 0x33 => s.idxZero && s.binding 2#2
  | 0x34 => s.idxZero && s.bound 2#2
  | 0x39 => s.idxZero && s.bind == 0#2 && s.status.cfgd && s.status.unsup
  | _ => false

/-- BUSY = 1 exactly while UPC ≠ 0x00 (10_state.md R23). -/
def State.busyOk (s : State) : Bool := s.status.busy == (s.upc != 0x00#8)

/-- FCODE is set exactly when FAULT is (10_state.md R24). -/
def State.faultOk (s : State) : Bool := s.status.fault == (s.fcode != 0x00#8)

/-- The invariant of the machine with valid parameters and the ROM of the spec. -/
structure State.Inv (s : State) : Prop where
  params : s.cfg.valid = true
  rom : s.romPatch = []
  mem : s.memSound = true
  pages : s.pagePair
  glyphs : s.glyphsKept
  noCmd : s.cmd = none
  busy : s.busyOk = true
  fault : s.faultOk = true
  phase : s.phaseOk = true

/-- No refusal has happened since reset: the premise of every claim about a proper host (60_exceptions.md R190). -/
def State.noRefusal (s : State) : Prop := s.status.fault = false

/-- The host's duty: every LFB cell is at most 15 (44_host_interface.md R179). -/
def State.lfbPixels (s : State) : Prop := ∀ i, i < Config.NPIX → (s.lfbAt i).toNat ≤ 15

/-- The relation of 10_state.md R27, a premise where a claim wants it (log 8). -/
def State.linesLawful (s : State) : Prop := s.adapter.vr = true → s.adapter.de = false

/-- Step `n` of the run from `s` is a poll that reads VR and DE as `vr`, `de`. -/
def State.pollsAt (s : State) (n : Nat) (vr de : Bool) : Prop :=
  ∃ u t, Sys2Proof.core.run n s = .next u ∧ step u = .next t ∧ t.events = .statusRead vr de :: u.events

/-- The block polls infinitely often with answers of which `p` holds. -/
def State.pollsForever (s : State) (p : Bool → Bool → Prop) : Prop := ∀ k, ∃ n vr de, k ≤ n ∧ p vr de ∧ s.pollsAt n vr de

/-- The liveness assumption of 70_reset_and_hazards.md R236: "whenever the block polls for ever, VR is read as 0 infinitely often and as 1 infinitely often, and DE is read as 0 infinitely often". A premise of termination claims only. -/
def State.linesLive (s : State) : Prop :=
  s.pollsForever (fun _ _ => True) →
    s.pollsForever (fun vr _ => vr = false) ∧ s.pollsForever (fun vr _ => vr = true) ∧ s.pollsForever (fun _ de => de = false)

/-- The adapter scans out the region last made visible: the premise of 42_ega_presenter.md R130. -/
def State.showsVisible (s : State) : Prop := s.adapter.saLatched = s.pageVis

/-- The offsets of the region at `page`. -/
def inRegion (page : Word) (a : Nat) : Prop := page.toNat ≤ a ∧ a < page.toNat + Config.PLANEBYTES

end Sys2Proof.Machine
end

