-- ==== Sys2Proof/Certificates/Slice0/Obligations.lean ====
section
/-! DEFINITION. The statements for the provers. "t = { s with f := t.f, … }" says that t differs from s in the named fields at most: the frame of an instruction. Memories are read one byte at a time; a history is the list of events in the order of the steps. -/

namespace Sys2Proof.Claims

open Sys2Proof.Machine

/-- The end of a loop step of 10_state.md R16 whose last index is `last`. -/
def LoopEnd (last : Nat) (s t : State) : Prop :=
  (s.idx.toNat = last → t.idx.toNat = 0 ∧ t.upc = s.upc + 1#8)
  ∧ (s.idx.toNat ≠ last → t.idx.toNat = s.idx.toNat + 1 ∧ t.upc = s.upc)

/-- The machine of the spec run for `n` steps. -/
def run (n : Nat) (s : State) : Result := Host.Core.run Sys2Proof.core n s

/-- The adapter sets its lines before each poll: one answer a poll. -/
def polls (answers : List (Bool × Bool)) : List Input := answers.flatMap fun a => [.lines a.1 a.2, .block]

/-- `n` steps of the block. -/
def blocks (n : Nat) : List Input := List.replicate n .block

/-- The status answers of one wait_vsync (40_sync.md R104): polls that saw retrace, one that did not, polls that saw none, one that did; each with any value of DE. -/
def waitAnswers (inRetrace : List Bool) (d0 : Bool) (noRetrace : List Bool) (d1 : Bool) : List (Bool × Bool) :=
  inRetrace.map (true, ·) ++ [(false, d0)] ++ noRetrace.map (false, ·) ++ [(true, d1)]

/-- The events of those polls. -/
def statusReads (answers : List (Bool × Bool)) : List Event := answers.map fun a => .statusRead a.1 a.2

/-- The packed byte of the pixels `p0`, `p1`: `p1` in the high nibble, `p0` in the low one. -/
def nibbles (p0 p1 : Byte) : Byte := p1.extractLsb' 0 4 ++ p0.extractLsb' 0 4

/-- The packed byte of pair `i` of the frame buffer. -/
def packedPair (s : State) (i : Nat) : Byte := nibbles (s.lfbAt (2 * i)) (s.lfbAt (2 * i + 1))

/-- The LFB index of source pixel `k` of byte `n` of a plane (42_ega_presenter.md R122). -/
def source (n k : Nat) : Nat := 160 * (n / 40 / 2) + 4 * (n % 40) + k

/-- The byte of plane `p` for byte number `n`: from bit 7 down, bit `p` of each of the four source pixels, twice. -/
def planeByte (s : State) (n p : Nat) : Byte :=
  BitVec.ofBoolListBE [(s.lfbAt (source n 0)).getLsbD p, (s.lfbAt (source n 0)).getLsbD p,
    (s.lfbAt (source n 1)).getLsbD p, (s.lfbAt (source n 1)).getLsbD p,
    (s.lfbAt (source n 2)).getLsbD p, (s.lfbAt (source n 2)).getLsbD p,
    (s.lfbAt (source n 3)).getLsbD p, (s.lfbAt (source n 3)).getLsbD p]

/-- The op codes that take no argument (30_encoding.md R73). -/
def plainOps : List Nat :=
  [0x00, 0x01, 0x03, 0x10, 0x11, 0x12, 0x20, 0x21, 0x30, 0x31, 0x32, 0x33, 0x34, 0x35, 0x36, 0x41, 0x42, 0x44, 0x45]

/-- A reserved micro-word of op `op` and argument `a`, in the words of 30_encoding.md R74. -/
def Reserved (op a : Nat) : Prop :=
  ¬ (op ∈ plainOps ∧ a = 0) ∧ ¬ op ∈ [0x02, 0x04, 0x05, 0x06]
  ∧ ¬ (op = 0x40 ∧ a ≤ 1) ∧ ¬ (op = 0x43 ∧ a ≤ 3) ∧ ¬ (op = 0x46 ∧ (a = 1 ∨ a = 2)) ∧ ¬ (op = 0x47 ∧ a ≤ 2)

/-- The 45 listed words of 30_encoding.md R79, address and word. -/
def listedWords : List (Nat × Nat) :=
  [(0x00, 0x0000), (0x01, 0x1000), (0x02, 0x1100), (0x03, 0x0300), (0x04, 0x0201), (0x05, 0x0100),
   (0x08, 0x2000), (0x09, 0x0201), (0x0A, 0x2100), (0x0B, 0x0100), (0x10, 0x3000), (0x11, 0x3100),
   (0x12, 0x3200), (0x13, 0x0611), (0x14, 0x3300), (0x15, 0x3400)]
  ++
  [(0x16, 0x1200), (0x17, 0x3500), (0x18, 0x3600), (0x19, 0x0201), (0x1A, 0x0100), (0x20, 0x4000),
   (0x21, 0x4100), (0x22, 0x0430), (0x23, 0x4200), (0x24, 0x0538), (0x25, 0x4300), (0x26, 0x4301),
   (0x27, 0x4302), (0x28, 0x4303), (0x29, 0x0201), (0x2A, 0x4400)]
  ++
  [(0x2B, 0x4500), (0x2C, 0x4601), (0x2D, 0x4701), (0x2E, 0x0100), (0x30, 0x4001), (0x31, 0x4602),
   (0x32, 0x4500), (0x33, 0x4702), (0x34, 0x0100), (0x38, 0x4700), (0x39, 0x0100), (0x3C, 0x4000),
   (0x3D, 0x0100)]

/-- The writes of STAMP in ascending order (43_detector.md R155). -/
def stampWrites : List Event := (List.range 16000).map fun k => .hwWriteCga k (if k % 2 = 0 then 0xDE#8 else 0x00#8)

end Sys2Proof.Claims

section
open Sys2Proof Sys2Proof.Machine Sys2Proof.Claims

/-! ## Encoding -/

/-- Decoding the code of a well-formed instruction gives it back. -/
def Obligations.DecodeAfterEncode : Prop :=
  ∀ i : Instr, i.wellFormed = true → decode (encode i) = .ok i

/-- Every code that decodes is the code of what it decodes to, which is well-formed. -/
def Obligations.EncodeAfterDecode : Prop :=
  ∀ (c : Code) (i : Instr), decode c = .ok i → encode i = c ∧ i.wellFormed = true

/-- Words of 95_test_vectors.md section 2.1. -/
def Obligations.VectorWordsDecode : Prop :=
  decodeCommand 0x01#8 = .ok .config ∧ decodeCommand 0x02#8 = .ok .present
  ∧ decodeMicro 0x0201#16 = .ok (.call 0x01#8) ∧ decodeMicro 0x0611#16 = .ok (.plnext 0x11#8)
  ∧ decodeMicro 0x3200#16 = .ok .slice ∧ decodeMicro 0x4303#16 = .ok (.crtcw 0x03#8)
  ∧ decodeMicro 0x4602#16 = .ok (.bind 0x02#8)

/-- A micro-word is rejected exactly when 30_encoding.md R74 calls it reserved. -/
def Obligations.RejectedIffReserved : Prop :=
  ∀ w : Word, (∃ e, decodeMicro w = .error e) ↔ Reserved (w.toNat / 256) (w.toNat % 256)

/-- A reserved command code written while no command runs: refused as IllegalCommand (30_encoding.md R71, 60_exceptions.md R195). -/
def Obligations.ReservedCommandIsIllegal : Prop :=
  ∀ (c : Byte) (s : State), c ∉ [0x01#8, 0x02#8, 0x03#8, 0x04#8] → s.status.busy = false →
    decodeCommand c = .error (.reservedCommand c)
    ∧ ∃ t, hostStep (.writeCmd c) s = .next t
      ∧ t.history = s.history ++ [.cmd c, .refused .illegalCommand]
      ∧ t.status = { s.status with fault := true } ∧ (s.status.fault = false → t.fcode = 1#8) ∧ (s.status.fault = true → t.fcode = s.fcode)
      ∧ t = { s with cmd := none, events := t.events, status := t.status, fcode := t.fcode }

/-! ## The step -/

/-- A step runs the decoded instruction: of the micro-word at UPC when the block moves, of the command byte when the host writes one. With no move listed the adapter first drives its lines to some levels (log 7). -/
def Obligations.StepRunsDecodedInstruction : Prop :=
  ∀ (s : State) (i : Instr) (rest : List Input),
    (s.env.inputs = [] → decodeMicro s.fetchWord = .ok i →
      ∃ vr de, step s = exec i { s.driveLines vr de with env := { s.env with lineCount := s.env.lineCount + 1 } })
    ∧ (s.env.inputs = .block :: rest → decodeMicro s.fetchWord = .ok i → step s = exec i (s.withInputs rest))
    ∧ (∀ c, s.env.inputs = .host (.writeCmd c) :: rest → decodeCommand c = .ok i → step s = exec i (s.withInputs rest))

/-- What `withFetchWord` places is what the next step runs (log 13). -/
def Obligations.PlacedInstructionRunsNext : Prop :=
  ∀ (s : State) (i : Instr) (w : Nat),
    (decodeTableWord 8 w = some i → step (s.withFetchWord 8 w) = exec i s)
    ∧ (decodeTableWord 16 w = some i →
        step (s.withFetchWord 16 w) = exec i { s with romPatch := (s.upc.toNat, BitVec.ofNat 16 w) :: s.romPatch })

/-- 30_encoding.md R79: the word at each of the 45 listed addresses, an instruction, and the reserved word at every other address; it is what the block fetches. -/
def Obligations.RomHoldsListedWords : Prop :=
  listedWords.length = 45 ∧ (listedWords.map (·.1)).Nodup
  ∧ (∀ a w, (a, w) ∈ listedWords → romWord [] (BitVec.ofNat 8 a) = BitVec.ofNat 16 w ∧ ∃ i, decodeMicro (BitVec.ofNat 16 w) = .ok i)
  ∧ (∀ a : Byte, a.toNat ∉ listedWords.map (·.1) → romWord [] a = 0xFFFF#16)
  ∧ ∀ s : State, s.romPatch = [] → s.fetchWord = romWord [] s.upc

/-! ## The Sync unit -/

/-- 40_sync.md R100, R101, R102: each poll is one status read; WVLO stays while VR = 1, WVHI while VR = 0, WDE while DE = 1. -/
def Obligations.PollsStayOnTheirLine : Prop :=
  decodeMicro 0x1000#16 = .ok .wvlo ∧ decodeMicro 0x1100#16 = .ok .wvhi ∧ decodeMicro 0x1200#16 = .ok .wde
  ∧ ∀ s : State,
    (∃ t, exec .wvlo s = .next t
      ∧ t.history = s.history ++ [.statusRead s.adapter.vr s.adapter.de]
      ∧ (s.adapter.vr = true → t.upc = s.upc) ∧ (s.adapter.vr = false → t.upc = s.upc + 1#8)
      ∧ t = { s with upc := t.upc, events := t.events })
    ∧ (∃ t, exec .wvhi s = .next t
      ∧ t.history = s.history ++ [.statusRead s.adapter.vr s.adapter.de]
      ∧ (s.adapter.vr = false → t.upc = s.upc) ∧ (s.adapter.vr = true → t.upc = s.upc + 1#8)
      ∧ t = { s with upc := t.upc, events := t.events })
    ∧ (∃ t, exec .wde s = .next t
      ∧ t.history = s.history ++ [.statusRead s.adapter.vr s.adapter.de]
      ∧ (s.adapter.de = true → t.upc = s.upc) ∧ (s.adapter.de = false → t.upc = s.upc + 1#8)
      ∧ t = { s with upc := t.upc, events := t.events })

/-- 40_sync.md R103, R106. -/
def Obligations.CallLinksAndRetReturns : Prop :=
  decodeMicro 0x0300#16 = .ok .ret
  ∧ ∀ (a : Byte) (s : State), decodeMicro (0x02#8 ++ a) = .ok (.call a)
    ∧ (∃ t, exec (.call a) s = .next t ∧ t.ret = s.upc + 1#8 ∧ t.upc = a ∧ t = { s with ret := t.ret, upc := t.upc })
    ∧ (∃ t, exec .ret s = .next t ∧ t.upc = s.ret ∧ t = { s with upc := t.upc })

/-- The contract of the subroutine wait_vsync (40_sync.md R104, R108): for every sequence of answers of its form, its events are exactly those reads, it returns to RET, and beside UPC and the history only the adapter's lines and latch have moved. -/
def Obligations.WaitVsyncContract : Prop :=
  ∀ (s : State) (inRetrace noRetrace : List Bool) (d0 d1 : Bool) (rest : List Input),
    s.romPatch = [] → s.upc = 0x01#8 →
    s.env.inputs = polls (waitAnswers inRetrace d0 noRetrace d1) ++ .block :: rest →
    ∃ t, run (2 * (inRetrace.length + noRetrace.length) + 5) s = .next t
      ∧ t.history = s.history ++ statusReads (waitAnswers inRetrace d0 noRetrace d1)
      ∧ t.upc = s.ret
      ∧ t = { s with upc := t.upc, events := t.events, env := { s.env with inputs := rest },
                     adapter := { s.adapter with vr := true, de := d1, saLatched := t.adapter.saLatched } }

/-- The command WAITV from idle (40_sync.md R105). -/
def Obligations.WaitvRunsOneWait : Prop :=
  ∀ (s : State) (inRetrace noRetrace : List Bool) (d0 d1 : Bool) (rest : List Input),
    s.romPatch = [] → s.upc = 0x00#8 → s.status.busy = false → s.cmd = none →
    s.env.inputs = .host (.writeCmd 0x03#8) :: .block :: polls (waitAnswers inRetrace d0 noRetrace d1) ++ .block :: .block :: rest →
    ∃ t, run (2 * (inRetrace.length + noRetrace.length) + 8) s = .next t
      ∧ t.history = s.history ++ [.cmd 0x03#8] ++ statusReads (waitAnswers inRetrace d0 noRetrace d1) ++ [.done]
      ∧ t = { s with ret := 0x05#8, events := t.events, env := { s.env with inputs := rest },
                     adapter := { s.adapter with vr := true, de := d1, saLatched := t.adapter.saLatched } }

/-! ## The CGA presenter -/

/-- 41_cga_presenter.md R110. -/
def Obligations.PackStoresPackedPair : Prop :=
  decodeMicro 0x2000#16 = .ok .pack
  ∧ ∀ s : State, s.idx.toNat < 8000 → ∃ t v, exec .pack s = .next t
    ∧ t.stage.read? s.idx.toNat = some v ∧ (∀ a, a ≠ s.idx.toNat → t.stage.read? a = s.stage.read? a)
    ∧ ((s.lfbAt (2 * s.idx.toNat)).toNat ≤ 15 → (s.lfbAt (2 * s.idx.toNat + 1)).toNat ≤ 15 →
        v = packedPair s s.idx.toNat ∧ t.env = s.env)
    ∧ LoopEnd 7999 s t
    ∧ t = { s with stage := t.stage, idx := t.idx, upc := t.upc, env := { s.env with freeCount := t.env.freeCount } }

/-- 41_cga_presenter.md R111. `stageAt` is the byte of the cell; a cell that nothing has written since reset has one too, whatever it is (log 4). -/
def Obligations.CopyWritesOddOffset : Prop :=
  decodeMicro 0x2100#16 = .ok .copy
  ∧ ∀ (s : State) (v : Byte), s.idx.toNat < 8000 → s.stageAt s.idx.toNat = v →
      (∀ w, s.stage.read? s.idx.toNat = some w → v = w)
      ∧ ∃ t, exec .copy s = .next t
        ∧ t.history = s.history ++ [.hwWriteCga (2 * s.idx.toNat + 1) v]
        ∧ t.adapter.cgahw.read? (2 * s.idx.toNat + 1) = some v
        ∧ (∀ a, a ≠ 2 * s.idx.toNat + 1 → t.adapter.cgahw.read? a = s.adapter.cgahw.read? a)
        ∧ LoopEnd 7999 s t
        ∧ t = { s with adapter := { s.adapter with cgahw := t.adapter.cgahw }, events := t.events, idx := t.idx, upc := t.upc }

/-- 30_encoding.md R83. -/
def Obligations.CgaPackRoundTrip : Prop :=
  ∀ p0 p1 : Byte, p0.toNat ≤ 15 → p1.toNat ≤ 15 →
    (packByte p0 p1).toNat = 16 * p1.toNat + p0.toNat ∧ packByte p0 p1 = nibbles p0 p1 ∧ unpackByte (packByte p0 p1) = (p0, p1)

/-- The whole pack phase: 8000 steps fill the staging array with the packed frame (41_cga_presenter.md R110, 30_encoding.md R84). -/
def Obligations.PackPhaseFillsStage : Prop :=
  ∀ (s : State) (rest : List Input), s.romPatch = [] → s.upc = 0x08#8 → s.idx.toNat = 0 → s.lfbPixels → s.env.inputs = blocks 8000 ++ rest →
    ∃ t, run 8000 s = .next t
      ∧ (∀ i, i < 8000 → t.stage.read? i = some (packedPair s i)) ∧ (∀ i, 8000 ≤ i → t.stage.read? i = s.stage.read? i)
      ∧ t = { s with stage := t.stage, upc := 0x09#8, env := { s.env with inputs := rest } }

/-- PRESENT.CGA from acceptance to Done (41_cga_presenter.md R112): for every frame of pixels and every sequence of answers of its one wait. -/
def Obligations.PresentCgaShowsFrame : Prop :=
  ∀ (s : State) (inRetrace noRetrace : List Bool) (d0 d1 : Bool) (rest : List Input),
    s.romPatch = [] → s.upc = 0x00#8 → s.idx.toNat = 0 → s.status.busy = false → s.bind = 1#2 → s.lfbPixels →
    s.env.inputs = .host (.writeCmd 0x02#8) :: blocks 8001 ++ polls (waitAnswers inRetrace d0 noRetrace d1) ++ blocks 8002 ++ rest →
    ∃ t, run (2 * (inRetrace.length + noRetrace.length) + 16008) s = .next t
      ∧ t.history = s.history ++ [.cmd 0x02#8] ++ statusReads (waitAnswers inRetrace d0 noRetrace d1)
          ++ (List.range 8000).map (fun i => .hwWriteCga (2 * i + 1) (packedPair s i)) ++ [.done]
      ∧ (∀ i, i < 8000 → t.stage.read? i = some (packedPair s i) ∧ t.adapter.cgahw.read? (2 * i + 1) = some (packedPair s i)
          ∧ t.adapter.cgahw.read? (2 * i) = s.adapter.cgahw.read? (2 * i))
      ∧ t.lfb = s.lfb ∧ t.bind = s.bind ∧ t.pageVis = s.pageVis ∧ t.pageAct = s.pageAct
      ∧ t.idx.toNat = 0 ∧ t.upc = 0x00#8 ∧ t.status = s.status

/-! ## The EGA presenter -/

/-- 42_ega_presenter.md R120. -/
def Obligations.PlinitStartsPlaneLoop : Prop :=
  decodeMicro 0x3000#16 = .ok .plinit
  ∧ ∀ s : State, ∃ t, exec .plinit s = .next t ∧ t.pl = 0#3 ∧ t.upc = s.upc + 1#8 ∧ t = { s with pl := t.pl, upc := t.upc }

/-- 42_ega_presenter.md R121. -/
def Obligations.PselSelectsCountedPlane : Prop :=
  decodeMicro 0x3100#16 = .ok .psel
  ∧ ∀ (s : State) (p : Fin 4), s.pl.toNat = p.val → ∃ t, exec .psel s = .next t
    ∧ t.adapter.plane = some p ∧ t.history = s.history ++ [.planeSelect p] ∧ t.upc = s.upc + 1#8
    ∧ t = { s with adapter := { s.adapter with plane := t.adapter.plane }, events := t.events, upc := t.upc }

/-- 42_ega_presenter.md R122; its (e), that the plane selected is PL, is a premise. -/
def Obligations.SliceWritesPlaneByte : Prop :=
  decodeMicro 0x3200#16 = .ok .slice
  ∧ ∀ (s : State) (q : Fin 4), s.idx.toNat < 8000 → s.pl.toNat = q.val → s.adapter.plane = some q →
      s.pageAct.toNat + s.idx.toNat < s.cfg.egaPlaneSize → ∃ t, exec .slice s = .next t
    ∧ t.history = s.history ++ [.hwWriteEga q (s.pageAct.toNat + s.idx.toNat) (planeByte s s.idx.toNat s.pl.toNat)]
    ∧ (∀ p a, (t.adapter.egahw.plane p).read? a =
        if p = q ∧ a = s.pageAct.toNat + s.idx.toNat then some (planeByte s s.idx.toNat s.pl.toNat) else (s.adapter.egahw.plane p).read? a)
    ∧ LoopEnd 7999 s t
    ∧ t = { s with adapter := { s.adapter with egahw := t.adapter.egahw }, events := t.events, idx := t.idx, upc := t.upc }

/-- 30_encoding.md R86: the bits of the plane byte, and its inverse. -/
def Obligations.EgaSliceRoundTrip : Prop :=
  ∀ (q0 q1 q2 q3 : Byte),
    (∀ p, p < 4 → ∀ k (hk : k < 4),
      (sliceByte q0 q1 q2 q3 p).getLsbD (7 - 2 * k) = ([q0, q1, q2, q3][k]'hk).getLsbD p
      ∧ (sliceByte q0 q1 q2 q3 p).getLsbD (6 - 2 * k) = ([q0, q1, q2, q3][k]'hk).getLsbD p)
    ∧ ∀ k (hk : k < 4),
      unslice (sliceByte q0 q1 q2 q3 0) (sliceByte q0 q1 q2 q3 1) (sliceByte q0 q1 q2 q3 2) (sliceByte q0 q1 q2 q3 3) k
        = ([q0, q1, q2, q3][k]'hk).extractLsb' 0 4

/-- The 8000 steps of SLICE for one plane (42_ega_presenter.md R123), and that nothing else of EGAHW is written. -/
def Obligations.SlicePhaseWritesDoubledRows : Prop :=
  ∀ (s : State) (p : Fin 4) (rest : List Input), s.romPatch = [] → s.upc = 0x12#8 → s.idx.toNat = 0 → s.pl.toNat = p.val →
    s.adapter.plane = some p → s.pageAct.toNat + 8000 ≤ s.cfg.egaPlaneSize → s.env.inputs = blocks 8000 ++ rest →
    ∃ t, run 8000 s = .next t
      ∧ (∀ y g d, y < 100 → g < 40 → d < 2 →
          (t.adapter.egahw.plane p).read? (s.pageAct.toNat + 40 * (2 * y + d) + g)
            = some (sliceByte (s.lfbAt (160 * y + 4 * g)) (s.lfbAt (160 * y + 4 * g + 1)) (s.lfbAt (160 * y + 4 * g + 2))
                (s.lfbAt (160 * y + 4 * g + 3)) p.val))
      ∧ (∀ q a, (q ≠ p ∨ ¬ inRegion s.pageAct a) → (t.adapter.egahw.plane q).read? a = (s.adapter.egahw.plane q).read? a)
      ∧ t = { s with adapter := { s.adapter with egahw := t.adapter.egahw }, events := t.events, upc := 0x13#8,
                     env := { s.env with inputs := rest } }

/-- PRESENT.EGA from acceptance to Done (42_ega_presenter.md R129, R130 (b)): for every frame and every sequence of answers of its two waits, the hidden region holds the frame in all four planes, the pair is exchanged, and the adapter scans out the region just written. -/
def Obligations.PresentEgaShowsFrame : Prop :=
  ∀ (s : State) (midScan inRetrace noRetrace : List Bool) (v0 d0 d1 : Bool) (rest : List Input),
    s.romPatch = [] → s.upc = 0x00#8 → s.idx.toNat = 0 → s.status.busy = false → s.bind = 2#2 →
    s.pageAct.toNat + 8000 ≤ s.cfg.egaPlaneSize → s.cfg.crtcIdxSah ≠ s.cfg.crtcIdxSal →
    s.env.inputs = .host (.writeCmd 0x02#8) :: blocks 32011 ++ polls (midScan.map (·, true) ++ [(v0, false)]) ++ blocks 3
      ++ polls (waitAnswers inRetrace d0 noRetrace d1) ++ blocks 2 ++ rest →
    ∃ t, run (2 * (midScan.length + inRetrace.length + noRetrace.length) + 32023) s = .next t
      ∧ t.history = s.history ++ [.cmd 0x02#8]
          ++ (List.finRange 4).flatMap (fun p => .planeSelect p
              :: (List.range 8000).map (fun n => .hwWriteEga p (s.pageAct.toNat + n) (planeByte s n p.val)))
          ++ statusReads (midScan.map (·, true) ++ [(v0, false)])
          ++ [.crtcWrite s.cfg.crtcIdxSah (s.pageAct.extractLsb' 8 8), .crtcWrite s.cfg.crtcIdxSal (s.pageAct.extractLsb' 0 8)]
          ++ statusReads (waitAnswers inRetrace d0 noRetrace d1) ++ [.done]
      ∧ (∀ p n, n < 8000 → (t.adapter.egahw.plane p).read? (s.pageAct.toNat + n) = some (planeByte s n p.val))
      ∧ (∀ p a, ¬ inRegion s.pageAct a → (t.adapter.egahw.plane p).read? a = (s.adapter.egahw.plane p).read? a)
      ∧ t.pageVis = s.pageAct ∧ t.pageAct = s.pageVis ∧ t.sa = s.pageAct ∧ t.pl.toNat = 4 ∧ t.adapter.plane = some 3
      ∧ t.startAddress = s.pageAct ∧ t.adapter.saLatched = t.pageVis ∧ t.lfb = s.lfb ∧ t.bind = s.bind
      ∧ t.idx.toNat = 0 ∧ t.upc = 0x00#8 ∧ t.status = s.status

/-- In a state of the invariant, a step of SLICE leaves the region named visible alone (42_ega_presenter.md R131). -/
def Obligations.SliceLeavesVisibleRegion : Prop :=
  ∀ (s : State), s.Inv → s.upc = 0x12#8 → ∃ t, exec .slice s = .next t
    ∧ ∀ p a, inRegion s.pageVis a → (t.adapter.egahw.plane p).read? a = (s.adapter.egahw.plane p).read? a

/-- 42_ega_presenter.md R124. -/
def Obligations.PlnextLoopsBelowFour : Prop :=
  ∀ (a : Byte) (s : State), s.pl.toNat ≤ 3 → decodeMicro (0x06#8 ++ a) = .ok (.plnext a)
    ∧ ∃ t, exec (.plnext a) s = .next t ∧ t.pl.toNat = s.pl.toNat + 1
      ∧ (s.pl.toNat < 3 → t.upc = a) ∧ (s.pl.toNat = 3 → t.upc = s.upc + 1#8) ∧ t = { s with pl := t.pl, upc := t.upc }

/-- 42_ega_presenter.md R125. -/
def Obligations.SwapExchangesPages : Prop :=
  decodeMicro 0x3300#16 = .ok .swap
  ∧ ∀ s : State, ∃ t, exec .swap s = .next t ∧ t.pageVis = s.pageAct ∧ t.pageAct = s.pageVis ∧ t.upc = s.upc + 1#8
    ∧ t = { s with pageVis := t.pageVis, pageAct := t.pageAct, upc := t.upc }

/-- 42_ega_presenter.md R126, R127, R128. -/
def Obligations.StartAddressIsWrittenInHalves : Prop :=
  decodeMicro 0x3400#16 = .ok .saddr ∧ decodeMicro 0x3500#16 = .ok .sahi ∧ decodeMicro 0x3600#16 = .ok .salo
  ∧ ∀ s : State,
    (∃ t, exec .saddr s = .next t ∧ t.sa = s.pageVis ∧ t.upc = s.upc + 1#8 ∧ t = { s with sa := t.sa, upc := t.upc })
    ∧ (∃ t, exec .sahi s = .next t ∧ t.history = s.history ++ [.crtcWrite s.cfg.crtcIdxSah (s.sa.extractLsb' 8 8)]
      ∧ (∀ r, t.adapter.crtc.read? r = if r = s.cfg.crtcIdxSah.toNat then some (s.sa.extractLsb' 8 8) else s.adapter.crtc.read? r)
      ∧ t.upc = s.upc + 1#8 ∧ t = { s with adapter := { s.adapter with crtc := t.adapter.crtc }, events := t.events, upc := t.upc })
    ∧ (∃ t, exec .salo s = .next t ∧ t.history = s.history ++ [.crtcWrite s.cfg.crtcIdxSal (s.sa.extractLsb' 0 8)]
      ∧ (∀ r, t.adapter.crtc.read? r = if r = s.cfg.crtcIdxSal.toNat then some (s.sa.extractLsb' 0 8) else s.adapter.crtc.read? r)
      ∧ t.upc = s.upc + 1#8 ∧ t = { s with adapter := { s.adapter with crtc := t.adapter.crtc }, events := t.events, upc := t.upc })

/-- A rise of VR after SAHI and SALO latches SA; a rise between the two latches the new high and the old low half (10_state.md R28, 70_reset_and_hazards.md R232). -/
def Obligations.RiseLatchesStartAddress : Prop :=
  ∀ (s t u : State) (de : Bool) (lo : Byte), s.cfg.crtcIdxSah ≠ s.cfg.crtcIdxSal → s.adapter.vr = false →
    s.adapter.crtc.read? s.cfg.crtcIdxSal.toNat = some lo → exec .sahi s = .next t → exec .salo t = .next u →
    (t.driveLines true de).adapter.saLatched = s.sa.extractLsb' 8 8 ++ lo
    ∧ (u.driveLines true de).adapter.saLatched = s.sa

/-- SA_LATCHED changes at no other time than a rise of VR or a mode request (10_state.md R28). With no move listed, a move of the adapter and a step of the block are one step (log 7). -/
def Obligations.LatchChangesOnlyAtRise : Prop :=
  ∀ s t : State, step s = .next t → t.adapter.saLatched ≠ s.adapter.saLatched →
    (s.adapter.vr = false ∧ t.adapter.vr = true ∧ t.adapter.saLatched = s.startAddress ∧ (s.env.inputs ≠ [] → t.history = s.history))
    ∨ ∃ m, t.history = s.history ++ [.setMode m]

/-! ## The detector and configurator -/

/-- 43_detector.md R140. -/
def Obligations.SmodeRequestsMode : Prop :=
  ∀ (a : Byte) (s : State), a.toNat ≤ 1 → decodeMicro (0x40#8 ++ a) = .ok (.smode a)
    ∧ ∃ t m, exec (.smode a) s = .next t ∧ (a = 0#8 → m = s.cfg.modeText) ∧ (a = 1#8 → m = s.cfg.modeEga)
      ∧ t.history = s.history ++ [.setMode m] ∧ t.adapter.mode = m ∧ t.adapter.plane = none
      ∧ (∀ k, t.adapter.cgahw.read? k = none) ∧ (∀ p k, (t.adapter.egahw.plane p).read? k = none)
      ∧ t.adapter.vr = s.adapter.vr ∧ t.adapter.de = s.adapter.de ∧ t.upc = s.upc + 1#8
      ∧ t = { s with adapter := t.adapter, events := t.events, upc := t.upc, env := { s.env with modeCount := t.env.modeCount } }

/-- Assumption E1 (20_memory.md R47; log 10): after the graphics mode request the adapter scans out from PAGE_A. -/
def Obligations.EgaModeShowsPageA : Prop :=
  ∀ s : State, s.cfg.valid = true → ∃ t, exec (.smode 1#8) s = .next t ∧ t.adapter.saLatched = s.cfg.pageA ∧ t.startAddress = s.cfg.pageA

/-- 43_detector.md R141 and R143: the answer is the one the service has ready, or any byte (log 6). -/
def Obligations.QueriesTakeAnswers : Prop :=
  decodeMicro 0x4100#16 = .ok .qsw ∧ decodeMicro 0x4200#16 = .ok .qds
  ∧ ∀ s : State,
    (∃ t, exec .qsw s = .next t ∧ (∀ c rest, s.env.swAnswers = c :: rest → t.sw = c ∧ t.env = { s.env with swAnswers := rest })
      ∧ t.history = s.history ++ [.querySwitches t.sw] ∧ t.upc = s.upc + 1#8
      ∧ t = { s with sw := t.sw, events := t.events, upc := t.upc, env := { s.env with swAnswers := t.env.swAnswers, freeCount := t.env.freeCount } })
    ∧ (∃ t, exec .qds s = .next t ∧ (∀ c rest, s.env.dsAnswers = c :: rest → t.ds = c ∧ t.env = { s.env with dsAnswers := rest })
      ∧ t.history = s.history ++ [.querySettings t.ds] ∧ t.upc = s.upc + 1#8
      ∧ t = { s with ds := t.ds, events := t.events, upc := t.upc, env := { s.env with dsAnswers := t.env.dsAnswers, freeCount := t.env.freeCount } })

/-- 43_detector.md R142 and R144. -/
def Obligations.DetectorBranches : Prop :=
  ∀ (a : Byte) (s : State), decodeMicro (0x04#8 ++ a) = .ok (.bega a) ∧ decodeMicro (0x05#8 ++ a) = .ok (.bmono a)
    ∧ (∃ t, exec (.bega a) s = .next t ∧ (s.sw ∈ s.cfg.egaCodes → t.upc = a) ∧ (s.sw ∉ s.cfg.egaCodes → t.upc = s.upc + 1#8)
      ∧ t = { s with upc := t.upc })
    ∧ (∃ t, exec (.bmono a) s = .next t ∧ (s.ds = 0x07#8 → t.upc = a) ∧ (s.ds ≠ 0x07#8 → t.upc = s.upc + 1#8)
      ∧ t = { s with upc := t.upc })

/-- 43_detector.md R145. -/
def Obligations.CrtcwWritesSlot : Prop :=
  ∀ (k : Fin 4) (s : State), decodeMicro (0x43#8 ++ BitVec.ofNat 8 k.val) = .ok (.crtcw (BitVec.ofNat 8 k.val))
    ∧ ∃ t, exec (.crtcw (BitVec.ofNat 8 k.val)) s = .next t
      ∧ t.history = s.history ++ [.crtcWrite s.cfg.crtcIdx[k] s.cfg.crtcVal[k]]
      ∧ (∀ r, t.adapter.crtc.read? r = if r = (s.cfg.crtcIdx[k]).toNat then some s.cfg.crtcVal[k] else s.adapter.crtc.read? r)
      ∧ t.upc = s.upc + 1#8 ∧ t = { s with adapter := { s.adapter with crtc := t.adapter.crtc }, events := t.events, upc := t.upc }

/-- 43_detector.md R155. -/
def Obligations.StampAlternatesGlyphAndBlack : Prop :=
  decodeMicro 0x4400#16 = .ok .stamp
  ∧ ∀ s : State, s.idx.toNat < 16000 → ∃ t v, exec .stamp s = .next t
    ∧ (s.idx.toNat % 2 = 0 → v = 0xDE#8) ∧ (s.idx.toNat % 2 = 1 → v = 0x00#8)
    ∧ t.history = s.history ++ [.hwWriteCga s.idx.toNat v]
    ∧ (∀ a, t.adapter.cgahw.read? a = if a = s.idx.toNat then some v else s.adapter.cgahw.read? a)
    ∧ LoopEnd 15999 s t
    ∧ t = { s with adapter := { s.adapter with cgahw := t.adapter.cgahw }, events := t.events, idx := t.idx, upc := t.upc }

/-- 43_detector.md R156. -/
def Obligations.LfbclrZeroesCell : Prop :=
  decodeMicro 0x4500#16 = .ok .lfbclr
  ∧ ∀ s : State, s.idx.toNat < 16000 → ∃ t, exec .lfbclr s = .next t
    ∧ (∀ a, t.lfb.read? a = if a = s.idx.toNat then some 0x00#8 else s.lfb.read? a)
    ∧ LoopEnd 15999 s t ∧ t = { s with lfb := t.lfb, idx := t.idx, upc := t.upc }

/-- 43_detector.md R157. -/
def Obligations.BindBindsPresenter : Prop :=
  ∀ (a : Byte) (s : State), (a = 1#8 ∨ a = 2#8) → decodeMicro (0x46#8 ++ a) = .ok (.bind a)
    ∧ ∃ t, exec (.bind a) s = .next t ∧ t.bind.toNat = a.toNat ∧ hostRegValue .cls t = a.setWidth 16 ∧ t.upc = s.upc + 1#8
      ∧ t = { s with bind := t.bind, upc := t.upc }

/-- 43_detector.md R158. -/
def Obligations.ReportSetsFlags : Prop :=
  ∀ (a : Byte) (s : State), a.toNat ≤ 2 → decodeMicro (0x47#8 ++ a) = .ok (.report a)
    ∧ ∃ t, exec (.report a) s = .next t ∧ t.history = s.history ++ [.report a]
      ∧ t.status.cfgd = true ∧ (a = 0#8 → t.status.unsup = true) ∧ (a ≠ 0#8 → t.status.unsup = s.status.unsup)
      ∧ t.status.busy = s.status.busy ∧ t.status.fault = s.status.fault ∧ t.upc = s.upc + 1#8
      ∧ t = { s with events := t.events, status := t.status, upc := t.upc }

/-- CONFIG (43_detector.md R160, R161, R162; 60_exceptions.md R201 (a)): the second query is made only when the first answer is no EGA-class code; and its EGA and CGA branches to Done, with their events and end states. -/
def Obligations.ConfigDecidesOnAnswers : Prop :=
  ∀ (s : State) (sw ds : Byte) (sws dss : List Byte) (rest : List Input),
    s.romPatch = [] → s.status.busy = false → s.status.cfgd = false → s.env.swAnswers = sw :: sws → s.env.dsAnswers = ds :: dss →
    (s.env.inputs = .host (.writeCmd 0x01#8) :: blocks 5 ++ rest →
      (sw ∈ s.cfg.egaCodes → ∃ t, run 4 s = .next t ∧ t.upc = 0x30#8
        ∧ t.history = s.history ++ [.cmd 0x01#8, .setMode s.cfg.modeText, .querySwitches sw] ∧ classify s.cfg.egaCodes sw ds = 2#8)
      ∧ (sw ∉ s.cfg.egaCodes → ds ≠ 0x07#8 → ∃ t, run 6 s = .next t ∧ t.upc = 0x25#8
        ∧ t.history = s.history ++ [.cmd 0x01#8, .setMode s.cfg.modeText, .querySwitches sw, .querySettings ds] ∧ classify s.cfg.egaCodes sw ds = 1#8)
      ∧ (sw ∉ s.cfg.egaCodes → ds = 0x07#8 → ∃ t, run 6 s = .next t ∧ t.upc = 0x38#8
        ∧ t.history = s.history ++ [.cmd 0x01#8, .setMode s.cfg.modeText, .querySwitches sw, .querySettings ds] ∧ classify s.cfg.egaCodes sw ds = 0#8))
    ∧ (s.status.unsup = false → s.idx.toNat = 0 → sw ∈ s.cfg.egaCodes →
      s.env.inputs = .host (.writeCmd 0x01#8) :: blocks 16007 ++ rest →
      ∃ t, run 16008 s = .next t
        ∧ t.history = s.history ++ [.cmd 0x01#8, .setMode s.cfg.modeText, .querySwitches sw, .setMode s.cfg.modeEga, .report 2#8, .done]
        ∧ t.bind = 2#2 ∧ t.status = { s.status with cfgd := true } ∧ (∀ i, i < 16000 → t.lfb.read? i = some 0x00#8)
        ∧ t.adapter.mode = s.cfg.modeEga ∧ t.adapter.plane = none ∧ t.adapter.saLatched = s.cfg.pageA
        ∧ t.pageVis = s.pageVis ∧ t.pageAct = s.pageAct ∧ t.idx.toNat = 0 ∧ t.upc = 0x00#8)
    ∧ (∀ (inRetrace noRetrace : List Bool) (d0 d1 : Bool),
      s.cfg.valid = true → s.status.unsup = false → s.idx.toNat = 0 → sw ∉ s.cfg.egaCodes → ds ≠ 0x07#8 →
      s.env.inputs = .host (.writeCmd 0x01#8) :: blocks 10 ++ polls (waitAnswers inRetrace d0 noRetrace d1) ++ blocks 32004 ++ rest →
      ∃ t, run (2 * (inRetrace.length + noRetrace.length) + 32019) s = .next t
        ∧ t.history = s.history ++ [.cmd 0x01#8, .setMode s.cfg.modeText, .querySwitches sw, .querySettings ds]
            ++ (List.finRange 4).map (fun k => .crtcWrite s.cfg.crtcIdx[k] s.cfg.crtcVal[k])
            ++ statusReads (waitAnswers inRetrace d0 noRetrace d1) ++ stampWrites ++ [.report 1#8, .done]
        ∧ t.bind = 1#2 ∧ t.status = { s.status with cfgd := true } ∧ (∀ i, i < 16000 → t.lfb.read? i = some 0x00#8)
        ∧ (∀ i, i < 8000 → t.adapter.cgahw.read? (2 * i) = some 0xDE#8 ∧ t.adapter.cgahw.read? (2 * i + 1) = some 0x00#8)
        ∧ (∀ k : Fin 4, t.adapter.crtc.read? (s.cfg.crtcIdx[k]).toNat = some s.cfg.crtcVal[k])
        ∧ t.adapter.mode = s.cfg.modeText ∧ t.pageVis = s.pageVis ∧ t.pageAct = s.pageAct ∧ t.idx.toNat = 0 ∧ t.upc = 0x00#8)

/-- CONFIG on an adapter that is neither: the error AdapterUnsupported (60_exceptions.md R191, R192). -/
def Obligations.UnsupportedAdapterIsReported : Prop :=
  ∀ (s : State) (sw : Byte) (sws dss : List Byte) (rest : List Input),
    s.romPatch = [] → s.status.busy = false → s.status.cfgd = false → s.bind = 0#2 → s.env.swAnswers = sw :: sws → sw ∉ s.cfg.egaCodes →
    s.env.dsAnswers = 0x07#8 :: dss → s.env.inputs = .host (.writeCmd 0x01#8) :: blocks 7 ++ rest →
    ∃ t, run 8 s = .next t
      ∧ t.history = s.history ++ [.cmd 0x01#8, .setMode s.cfg.modeText, .querySwitches sw, .querySettings 0x07#8, .report 0#8, .done]
      ∧ t.bind = 0#2 ∧ t.status = { s.status with cfgd := true, unsup := true } ∧ t.lfb = s.lfb ∧ t.upc = 0x00#8
      ∧ t.adapter.mode = s.cfg.modeText ∧ t.processResult = s.cfg.exitUnsupported

/-! ## The host interface -/

/-- 44_host_interface.md R170. -/
def Obligations.IdleDispatchesCommand : Prop :=
  ∀ (s : State) (c : Byte), s.cmd = some c → ∃ t, exec .idle s = .next t
    ∧ ((c = 0x01#8 ∧ s.status.cfgd = false) ∨ (c = 0x02#8 ∧ (s.bind = 1#2 ∨ s.bind = 2#2)) ∨ c = 0x03#8 ∨ c = 0x04#8 →
        t.history = s.history ++ [.cmd c] ∧ t.status = { s.status with busy := true }
        ∧ (c = 0x01#8 → t.upc = 0x20#8) ∧ (c = 0x02#8 → s.bind = 1#2 → t.upc = 0x08#8) ∧ (c = 0x02#8 → s.bind = 2#2 → t.upc = 0x10#8)
        ∧ (c = 0x03#8 → t.upc = 0x04#8) ∧ (c = 0x04#8 → t.upc = 0x3C#8)
        ∧ t = { s with cmd := none, events := t.events, status := t.status, upc := t.upc })
    ∧ (∀ r, (c = 0x01#8 ∧ s.status.cfgd = true ∧ r = .reconfigure)
        ∨ (c = 0x02#8 ∧ s.bind ≠ 1#2 ∧ s.bind ≠ 2#2 ∧ r = .unboundPresent)
        ∨ (c ∉ [0x01#8, 0x02#8, 0x03#8, 0x04#8] ∧ r = .illegalCommand) →
        t.history = s.history ++ [.cmd c, .refused r] ∧ t.status = { s.status with fault := true }
        ∧ (s.status.fault = false → t.fcode = r.code) ∧ (s.status.fault = true → t.fcode = s.fcode)
        ∧ t = { s with cmd := none, events := t.events, status := t.status, fcode := t.fcode })

/-- Without a write to CMD the block stays as it is (log 11). -/
def Obligations.IdleWaitsForHost : Prop :=
  ∀ s : State, s.cmd = none → exec .idle s = .next s

/-- 44_host_interface.md R171. -/
def Obligations.DoneCompletesCommand : Prop :=
  decodeMicro 0x0100#16 = .ok .done
  ∧ ∀ s : State, ∃ t, exec .done s = .next t ∧ t.history = s.history ++ [.done] ∧ t.status = { s.status with busy := false }
    ∧ t.upc = 0x00#8 ∧ t = { s with events := t.events, status := t.status, upc := t.upc }

/-- The four commands written while no command runs: each is accepted at its entry (30_encoding.md R70), with the two cases of PRESENT. -/
def Obligations.CommandsAreAccepted : Prop :=
  ∀ (s : State) (i : Instr) (c entry : Byte), s.status.busy = false →
    ((i = .config ∧ c = 0x01#8 ∧ entry = 0x20#8 ∧ s.status.cfgd = false) ∨ (i = .present ∧ c = 0x02#8 ∧ entry = 0x08#8 ∧ s.bind = 1#2)
      ∨ (i = .present ∧ c = 0x02#8 ∧ entry = 0x10#8 ∧ s.bind = 2#2) ∨ (i = .waitv ∧ c = 0x03#8 ∧ entry = 0x04#8)
      ∨ (i = .restore ∧ c = 0x04#8 ∧ entry = 0x3C#8)) →
    decodeCommand c = .ok i
    ∧ ∃ t, exec i s = .next t ∧ t.history = s.history ++ [.cmd c] ∧ t.upc = entry ∧ t.status = { s.status with busy := true }
      ∧ t = { s with cmd := none, events := t.events, status := t.status, upc := t.upc }

/-- A host action turned away: BusyAccess before any other test; while no command runs UnboundPresent, Reconfigure or IllegalCommand, after the Cmd event (60_exceptions.md R196, R197, R198, R201 (b)). -/
def Obligations.CommandsAreRefused : Prop :=
  ∀ (s : State),
    (s.status.busy = true → ∀ a : HostAction, ((∃ c, a = .writeCmd c) ∨ (∃ i v, a = .lfbWrite i v) ∨ ∃ i, a = .lfbRead i) →
      ∃ t, hostStep a s = .next t ∧ t.history = s.history ++ [.refused .busyAccess]
      ∧ t.status = { s.status with fault := true } ∧ (s.status.fault = false → t.fcode = 4#8) ∧ (s.status.fault = true → t.fcode = s.fcode)
      ∧ ((∃ i, a = .lfbRead i) → t.env.hostReply = none) ∧ ((∀ i, a ≠ .lfbRead i) → t.env = s.env)
      ∧ t = { s with events := t.events, status := t.status, fcode := t.fcode, env := { s.env with hostReply := t.env.hostReply } })
    ∧ (s.status.busy = false → s.bind = 0#2 → ∃ t, exec .present s = .next t
      ∧ t.history = s.history ++ [.cmd 0x02#8, .refused .unboundPresent]
      ∧ t.status = { s.status with fault := true } ∧ (s.status.fault = false → t.fcode = 2#8) ∧ (s.status.fault = true → t.fcode = s.fcode)
      ∧ t = { s with cmd := none, events := t.events, status := t.status, fcode := t.fcode })
    ∧ (s.status.busy = false → s.status.cfgd = true → ∃ t, exec .config s = .next t
      ∧ t.history = s.history ++ [.cmd 0x01#8, .refused .reconfigure]
      ∧ t.status = { s.status with fault := true } ∧ (s.status.fault = false → t.fcode = 3#8) ∧ (s.status.fault = true → t.fcode = s.fcode)
      ∧ t = { s with cmd := none, events := t.events, status := t.status, fcode := t.fcode })
    ∧ (s.status.busy = false → ∀ c, c ∉ [0x01#8, 0x02#8, 0x03#8, 0x04#8] → ∃ t, hostStep (.writeCmd c) s = .next t
      ∧ t.history = s.history ++ [.cmd c, .refused .illegalCommand]
      ∧ t.status = { s.status with fault := true } ∧ (s.status.fault = false → t.fcode = 1#8) ∧ (s.status.fault = true → t.fcode = s.fcode)
      ∧ t = { s with cmd := none, events := t.events, status := t.status, fcode := t.fcode })

/-- The host's accesses to the LFB (44_host_interface.md R176, R177; 60_exceptions.md R198, R199, R201 (c)): BUSY is tested first, then the index. -/
def Obligations.LfbAccess : Prop :=
  ∀ (s : State) (i : Nat) (v : Byte),
    (s.status.busy = false → i < 16000 →
      (∃ t, hostStep (.lfbWrite i v) s = .next t ∧ (∀ a, t.lfb.read? a = if a = i then some v else s.lfb.read? a) ∧ t = { s with lfb := t.lfb })
      ∧ (∃ x : Byte, hostStep (.lfbRead i) s = .next { s with env := { s.env with hostReply := some (x.setWidth 16) } }
          ∧ ∀ w, s.lfb.read? i = some w → x = w))
    ∧ (∀ r code, (s.status.busy = true ∧ r = .busyAccess ∧ code = 4#8) ∨ (s.status.busy = false ∧ 16000 ≤ i ∧ r = .outOfRange ∧ code = 5#8) →
      ∃ t u, hostStep (.lfbWrite i v) s = .next t ∧ hostStep (.lfbRead i) s = .next u
        ∧ t.history = s.history ++ [.refused r] ∧ t.status = { s.status with fault := true }
        ∧ (s.status.fault = false → t.fcode = code) ∧ (s.status.fault = true → t.fcode = s.fcode)
        ∧ t = { s with events := t.events, status := t.status, fcode := t.fcode }
        ∧ u = { t with env := { s.env with hostReply := none } })

/-- Reads of H1 to H5 are allowed at any time and have no side effect; writes are ignored (10_state.md R23, R25). -/
def Obligations.HostRegisterAccess : Prop :=
  ∀ (s : State) (r : HostReg) (v : Word),
    (∃ t x, hostStep (.readReg r) s = .next t ∧ t.env.hostReply = some x ∧ t = { s with env := { s.env with hostReply := t.env.hostReply } }
      ∧ (r = .status → x.toNat = s.status.busy.toNat + 2 * s.status.cfgd.toNat + 4 * s.status.unsup.toNat + 8 * s.status.fault.toNat)
      ∧ (r = .cls → x.toNat = s.bind.toNat) ∧ (r = .fcode → x.toNat = s.fcode.toNat)
      ∧ (r = .pageVis → x = s.pageVis) ∧ (r = .pageAct → x = s.pageAct))
    ∧ hostStep (.writeReg r v) s = .next s

/-- 44_host_interface.md R173: RESTORE from idle. -/
def Obligations.RestoreReturnsToText : Prop :=
  ∀ (s : State) (rest : List Input), s.romPatch = [] → s.upc = 0x00#8 → s.status.busy = false →
    s.env.inputs = .host (.writeCmd 0x04#8) :: blocks 2 ++ rest →
    ∃ t, run 3 s = .next t ∧ t.history = s.history ++ [.cmd 0x04#8, .setMode s.cfg.modeText, .done]
      ∧ t.adapter.mode = s.cfg.modeText ∧ t.upc = 0x00#8 ∧ t.status = s.status ∧ t.bind = s.bind
      ∧ t.pageVis = s.pageVis ∧ t.pageAct = s.pageAct ∧ t.lfb = s.lfb

/-! ## Refusals, reset, stops -/

/-- 60_exceptions.md R194. -/
def Obligations.RaiseKeepsFirstReason : Prop :=
  ∀ (s : State) (r : Reason), (s.raise r).history = s.history ++ [.refused r] ∧ (s.raise r).status = { s.status with fault := true }
    ∧ (s.status.fault = false → (s.raise r).fcode = r.code) ∧ (s.status.fault = true → (s.raise r).fcode = s.fcode)
    ∧ s.raise r = { s with events := (s.raise r).events, status := (s.raise r).status, fcode := (s.raise r).fcode }

/-- 70_reset_and_hazards.md R220: the reset input, from any state. -/
def Obligations.ResetInput : Prop :=
  ∀ (s : State) (rest : List Input), s.env.inputs = .reset :: rest → ∃ t, step s = .next t
    ∧ t.upc = 0x00#8 ∧ t.idx = 0#14 ∧ t.bind = 0#2 ∧ t.pageVis = s.cfg.pageA ∧ t.pageAct = s.cfg.pageB
    ∧ t.status.word = 0x00#8 ∧ t.fcode = 0x00#8 ∧ t.history = []
    ∧ t.adapter = s.adapter ∧ t.cfg = s.cfg ∧ t.romPatch = s.romPatch ∧ (∀ i, t.lfb.read? i = none) ∧ (∀ i, t.stage.read? i = none)

/-- At a reserved word the block is stuck: as it is fetched, and as an instruction with an argument outside its row's legal values (log 14). -/
def Obligations.ReservedWordSticks : Prop :=
  ∀ (s : State) (a : Byte),
    (Reserved (s.fetchWord.toNat / 256) (s.fetchWord.toNat % 256) → blockStep s = .fault (.reservedMicroWord s.fetchWord))
    ∧ (2 ≤ a.toNat → exec (.smode a) s = .fault (.reservedMicroWord (0x40#8 ++ a)))
    ∧ (4 ≤ a.toNat → exec (.crtcw a) s = .fault (.reservedMicroWord (0x43#8 ++ a)))
    ∧ (a ≠ 1#8 → a ≠ 2#8 → exec (.bind a) s = .fault (.reservedMicroWord (0x46#8 ++ a)))
    ∧ (3 ≤ a.toNat → exec (.report a) s = .fault (.reservedMicroWord (0x47#8 ++ a)))

/-- The operand values outside the spec's ranges (log 15, 16, 20, 21; 93_implementation_defined.md U8). At PL above 3 PSEL selects some plane, SLICE writes some byte to the plane selected, and PLNEXT falls through; SLICE writes the plane selected also where that is not PL; an offset that does not exist, and no plane selected, stop. -/
def Obligations.OutOfRangeOperands : Prop :=
  ∀ (s : State) (a : Byte) (q : Fin 4),
    (8000 ≤ s.idx.toNat → (∃ sp off, exec .pack s = .fault (.offsetOutOfRange sp off)) ∧ (∃ sp off, exec .copy s = .fault (.offsetOutOfRange sp off))
      ∧ (∃ sp off, exec .slice s = .fault (.offsetOutOfRange sp off)))
    ∧ (16000 ≤ s.idx.toNat → exec .stamp s = .fault (.offsetOutOfRange .cgahw s.idx.toNat) ∧ exec .lfbclr s = .fault (.offsetOutOfRange .lfb s.idx.toNat))
    ∧ (4 ≤ s.pl.toNat → (∃ t p, exec .psel s = .next t ∧ t.adapter.plane = some p ∧ t.history = s.history ++ [.planeSelect p] ∧ t.upc = s.upc + 1#8
        ∧ t = { s with adapter := { s.adapter with plane := t.adapter.plane }, events := t.events, upc := t.upc,
                       env := { s.env with freeCount := t.env.freeCount } })
      ∧ ∃ t, exec (.plnext a) s = .next t ∧ t.upc = s.upc + 1#8 ∧ t = { s with pl := t.pl, upc := t.upc })
    ∧ (s.idx.toNat < 8000 → s.cfg.egaPlaneSize ≤ s.pageAct.toNat + s.idx.toNat →
      exec .slice s = .fault (.offsetOutOfRange .egahw (s.pageAct.toNat + s.idx.toNat)))
    ∧ (s.idx.toNat < 8000 → s.pageAct.toNat + s.idx.toNat < s.cfg.egaPlaneSize →
      (s.adapter.plane = none → exec .slice s = .fault .planeUnset)
      ∧ (s.adapter.plane = some q → ∃ t v, exec .slice s = .next t ∧ (s.pl.toNat < 4 → v = planeByte s s.idx.toNat s.pl.toNat)
        ∧ t.history = s.history ++ [.hwWriteEga q (s.pageAct.toNat + s.idx.toNat) v]
        ∧ (∀ p k, (t.adapter.egahw.plane p).read? k =
            if p = q ∧ k = s.pageAct.toNat + s.idx.toNat then some v else (s.adapter.egahw.plane p).read? k)
        ∧ LoopEnd 7999 s t
        ∧ t = { s with adapter := { s.adapter with egahw := t.adapter.egahw }, events := t.events, idx := t.idx, upc := t.upc,
                       env := { s.env with freeCount := t.env.freeCount } }))

/-! ## Invariants and whole-machine rules -/

/-- The machine right after reset meets the invariant, for every valid choice of the parameters. -/
def Obligations.ResetMeetsInvariant : Prop :=
  State.reset.Inv ∧ ∀ p : Config.Params, p.valid = true → (State.resetWith p).Inv

/-- Every step keeps the invariant: parameters, ROM, canonical memories, page pair, glyph bytes, flags, and the phase of the micro-program at the listed addresses. -/
def Obligations.StepKeepsInvariant : Prop :=
  ∀ s t : State, s.Inv → step s = .next t → t.Inv

/-- From the invariant the machine never stops: no reserved word, no bad offset, no unset plane. And under the liveness assumption of 70_reset_and_hazards.md R236 every command ends: the block becomes idle, and a command that no reset cuts short ends with Done. -/
def Obligations.InvariantNeverStops : Prop :=
  (∀ s : State, s.Inv → ∃ t, step s = .next t)
  ∧ ∀ s : State, s.Inv → s.linesLive → ∃ n t, run n s = .next t ∧ t.upc = 0x00#8 ∧ t.status.busy = false
      ∧ (s.status.busy = true → .reset ∉ s.env.inputs → ∃ h, t.history = s.history ++ h ++ [.done])

/-- Every step keeps every memory in canonical form inside its space. -/
def Obligations.StepKeepsMemoriesCanonical : Prop :=
  ∀ s t : State, s.memSound = true → step s = .next t → t.memSound = true

/-- "EGA page identifiers always hold {A,B} as a set" (10_state.md R22): kept by every step from every state that has it. -/
def Obligations.StepKeepsPagePair : Prop :=
  ∀ s t : State, s.pagePair → step s = .next t → t.pagePair

/-- No step puts anything but GLYPH at an even offset of CGAHW (10_state.md R29, 70_reset_and_hazards.md R234). -/
def Obligations.StepKeepsGlyphBytes : Prop :=
  ∀ s t : State, s.glyphsKept → step s = .next t → t.glyphsKept

/-- Who writes what (10_state.md R11 to R30): each register, flag and memory of the block and the adapter is changed by an instruction only where it is one of its writers, and by another host action only as listed. -/
def Obligations.RegistersHaveOneWriter : Prop :=
  (∀ (i : Instr) (s t : State), exec i s = .next t →
    (t.ret ≠ s.ret → ∃ a, i = .call a) ∧ (t.sa ≠ s.sa → i = .saddr) ∧ (t.sw ≠ s.sw → i = .qsw) ∧ (t.ds ≠ s.ds → i = .qds)
    ∧ (t.bind ≠ s.bind → ∃ a, i = .bind a) ∧ (t.pageVis ≠ s.pageVis ∨ t.pageAct ≠ s.pageAct → i = .swap)
    ∧ (t.pl ≠ s.pl → i = .plinit ∨ ∃ a, i = .plnext a) ∧ (t.lfb ≠ s.lfb → i = .lfbclr) ∧ (t.stage ≠ s.stage → i = .pack)
    ∧ (t.idx ≠ s.idx → i ∈ [.pack, .copy, .slice, .stamp, .lfbclr])
    ∧ (t.status.busy ≠ s.status.busy → i ∈ [.config, .present, .waitv, .restore, .idle, .done])
    ∧ (t.status.cfgd ≠ s.status.cfgd ∨ t.status.unsup ≠ s.status.unsup → ∃ a, i = .report a)
    ∧ (t.status.fault ≠ s.status.fault ∨ t.fcode ≠ s.fcode ∨ t.cmd ≠ s.cmd → i ∈ [.config, .present, .waitv, .restore, .idle])
    ∧ (t.adapter.mode ≠ s.adapter.mode ∨ t.adapter.saLatched ≠ s.adapter.saLatched → ∃ a, i = .smode a)
    ∧ (t.adapter.plane ≠ s.adapter.plane → i = .psel ∨ ∃ a, i = .smode a)
    ∧ (t.adapter.crtc ≠ s.adapter.crtc → i = .sahi ∨ i = .salo ∨ (∃ a, i = .crtcw a) ∨ ∃ a, i = .smode a)
    ∧ (t.adapter.cgahw ≠ s.adapter.cgahw → i = .copy ∨ i = .stamp ∨ ∃ a, i = .smode a)
    ∧ (t.adapter.egahw ≠ s.adapter.egahw → i = .slice ∨ ∃ a, i = .smode a)
    ∧ t.cfg = s.cfg ∧ t.romPatch = s.romPatch ∧ t.adapter.vr = s.adapter.vr ∧ t.adapter.de = s.adapter.de)
  ∧ ∀ (a : HostAction) (s t : State), hostStep a s = .next t → (∀ c, a ≠ .writeCmd c) →
    (t.lfb ≠ s.lfb → ∃ i v, a = .lfbWrite i v)
    ∧ t = { s with lfb := t.lfb, events := t.events, status := { s.status with fault := t.status.fault }, fcode := t.fcode,
                   env := { s.env with hostReply := t.env.hostReply } }

/-- STATUS.FAULT is sticky: only the reset input clears it (10_state.md R23, 60_exceptions.md R194). -/
def Obligations.FaultIsSticky : Prop :=
  ∀ s t : State, step s = .next t → s.status.fault = true → s.env.inputs.head? ≠ some .reset → t.status.fault = true ∧ t.fcode = s.fcode

end
end

