-- ==== Sys2Proof/Laws/Memory.lean ====
section
/-! SUPPORT. The laws of a byte memory: read after write, the canonical form kept by every memory operation, and the same for the four planes. -/

namespace Sys2Proof.Machine

@[simp] theorem Memory.read?_nil (a : Nat) : Memory.read? [] a = none := rfl

@[simp] theorem Memory.read?_write_self (m : Memory) (a : Nat) (v : Byte) : (m.write a v).read? a = some v := by
  induction m with
  | nil => simp [Memory.write, Memory.read?]
  | cons c m ih =>
    obtain ⟨b, w⟩ := c
    simp only [Memory.write]
    split
    · simp [Memory.read?]
    · split
      · simp [Memory.read?]
      · simp [Memory.read?, *]

theorem Memory.read?_write_other (m : Memory) {a c : Nat} (v : Byte) (h : c ≠ a) : (m.write a v).read? c = m.read? c := by
  induction m with
  | nil => simp [Memory.write, Memory.read?, h]
  | cons d m ih =>
    obtain ⟨b, w⟩ := d
    simp only [Memory.write]
    split
    · simp [Memory.read?, h]
    · split
      · next _ hab => subst hab; simp [Memory.read?, h]
      · simp [Memory.read?, ih]

/-- What a write leaves, at every offset. -/
theorem Memory.read?_write (m : Memory) (a c : Nat) (v : Byte) :
    (m.write a v).read? c = if c = a then some v else m.read? c := by
  split
  · next h => subst h; simp
  · next h => exact Memory.read?_write_other m v h

/-- The offsets of a memory after a write are the one written and those before. -/
theorem Memory.mem_write {m : Memory} {a : Nat} {v : Byte} {c : Host.Cell} (h : c ∈ m.write a v) : c.1 = a ∨ c ∈ m := by
  induction m with
  | nil => simp [Memory.write] at h; simp [h]
  | cons d m ih =>
    obtain ⟨b, w⟩ := d
    simp only [Memory.write] at h
    split at h
    · rcases List.mem_cons.1 h with rfl | h
      · simp
      · exact .inr h
    · split at h
      · rcases List.mem_cons.1 h with rfl | h
        · simp
        · exact .inr (List.mem_cons_of_mem _ h)
      · rcases List.mem_cons.1 h with rfl | h
        · simp
        · exact (ih h).imp_right (List.mem_cons_of_mem _)

@[simp] theorem Memory.wf_nil : Memory.wf [] = true := rfl
@[simp] theorem Memory.below_nil (n : Nat) : Memory.below n [] = true := rfl
@[simp] theorem Memory.sound_nil (n : Nat) : Memory.sound n [] = true := rfl

/-- A write keeps the canonical form. -/
theorem Memory.wf_write {m : Memory} (a : Nat) (v : Byte) (h : m.wf = true) : (m.write a v).wf = true := by
  induction m with
  | nil => simp [Memory.write, Memory.wf]
  | cons c m ih =>
    obtain ⟨b, w⟩ := c
    simp only [Memory.wf, Bool.and_eq_true, List.all_eq_true, decide_eq_true_eq] at h
    simp only [Memory.write]
    split
    · next hab =>
      simp only [Memory.wf, Bool.and_eq_true, List.all_eq_true, decide_eq_true_eq, List.mem_cons]
      refine ⟨?_, h⟩
      rintro x (rfl | hx)
      · exact hab
      · exact hab.trans (h.1 x hx)
    · next hab =>
      split
      · next heq => subst heq; simpa [Memory.wf] using h
      · next hne =>
        simp only [Memory.wf, Bool.and_eq_true, List.all_eq_true, decide_eq_true_eq]
        refine ⟨fun x hx => ?_, ih h.2⟩
        rcases Memory.mem_write hx with hx | hx
        · omega
        · exact h.1 x hx

/-- A write below `n` lists only offsets below `n`. -/
theorem Memory.below_write {m : Memory} {n a : Nat} (v : Byte) (ha : a < n) (h : m.below n = true) : (m.write a v).below n = true := by
  simp only [Memory.below, List.all_eq_true, decide_eq_true_eq] at h ⊢
  intro c hc
  rcases Memory.mem_write hc with hc | hc
  · omega
  · exact h c hc

theorem Memory.sound_write {m : Memory} {n a : Nat} (v : Byte) (ha : a < n) (h : m.sound n = true) : (m.write a v).sound n = true := by
  simp only [Memory.sound, Bool.and_eq_true] at h ⊢
  exact ⟨Memory.wf_write a v h.1, Memory.below_write v ha h.2⟩

/-- Two canonical memories that read the same are equal data. -/
theorem Memory.ext_of_read? {m n : Memory} (hm : m.wf = true) (hn : n.wf = true) (h : ∀ a, m.read? a = n.read? a) : m = n := by
  have none_below : ∀ {m : Memory} {a b : Nat}, (m.all (fun c => decide (b < c.1))) = true → a ≤ b → m.read? a = none := by
    intro m a b
    induction m with
    | nil => simp
    | cons c m ih =>
      intro hall hle
      obtain ⟨c, w⟩ := c
      simp only [List.all_cons, Bool.and_eq_true, decide_eq_true_eq] at hall
      have hne : a ≠ c := by omega
      simp [Memory.read?, hne, ih hall.2 hle]
  induction m generalizing n with
  | nil =>
    cases n with
    | nil => rfl
    | cons c n => have := h c.1; simp [Memory.read?] at this
  | cons c m ih =>
    obtain ⟨a, v⟩ := c
    cases n with
    | nil => have := h a; simp [Memory.read?] at this
    | cons d n =>
      obtain ⟨b, w⟩ := d
      simp only [Memory.wf, Bool.and_eq_true] at hm hn
      have hab : a = b := by
        rcases Nat.lt_trichotomy a b with hlt | heq | hgt
        · have ha := h a
          simp only [Memory.read?, if_true, if_neg (Nat.ne_of_lt hlt), none_below hn.1 (Nat.le_of_lt hlt)] at ha
          exact absurd ha (by simp)
        · exact heq
        · have hb := h b
          simp only [Memory.read?, if_true, if_neg (Nat.ne_of_lt hgt), none_below hm.1 (Nat.le_of_lt hgt)] at hb
          exact absurd hb (by simp)
      subst hab
      have hv : v = w := by have ha := h a; simpa [Memory.read?] using ha
      subst hv
      congr 1
      refine ih hm.2 hn.2 fun x => ?_
      by_cases hx : x = a
      · subst hx; rw [none_below hm.1 (Nat.le_refl _), none_below hn.1 (Nat.le_refl _)]
      · simpa [Memory.read?, hx] using h x

/-! ## The four planes -/

/-- What a write leaves, in every plane. -/
theorem EgaPlanes.plane_write (e : EgaPlanes) (p q : Fin 4) (a : Nat) (v : Byte) :
    (e.write p a v).plane q = if q = p then (e.plane p).write a v else e.plane q := by
  fin_cases p <;> fin_cases q <;> rfl

@[simp] theorem EgaPlanes.plane_unwritten (p : Fin 4) : EgaPlanes.unwritten.plane p = [] := by
  fin_cases p <;> rfl

/-- What a write leaves, at every byte of every plane. -/
theorem EgaPlanes.read?_write (e : EgaPlanes) (p q : Fin 4) (a c : Nat) (v : Byte) :
    ((e.write p a v).plane q).read? c = if q = p ∧ c = a then some v else (e.plane q).read? c := by
  rw [EgaPlanes.plane_write]
  by_cases hq : q = p
  · subst hq
    by_cases hc : c = a <;> simp [hc, Memory.read?_write]
  · simp [hq]

/-! ## The memories of the state -/

/-- All memories are sound, plane by plane. -/
theorem State.memSound_iff (s : State) : s.memSound = true ↔
    s.lfb.sound Config.NPIX = true ∧ s.stage.sound Config.NPAIR = true ∧ s.adapter.cgahw.sound Config.CGA_SIZE = true
    ∧ s.adapter.crtc.sound 256 = true ∧ ∀ p, (s.adapter.egahw.plane p).sound s.cfg.egaPlaneSize = true := by
  simp only [State.memSound, Bool.and_eq_true, Fin.forall_fin_succ, EgaPlanes.plane, and_assoc]
  constructor
  · rintro ⟨h1, h2, h3, h4, h5, h6, h7, h8⟩; exact ⟨h1, h2, h3, h4, h5, h6, h7, h8, by simp⟩
  · rintro ⟨h1, h2, h3, h4, h5, h6, h7, h8, -⟩; exact ⟨h1, h2, h3, h4, h5, h6, h7, h8⟩

/-- The memories at reset are in canonical form. -/
theorem State.memSound_reset : State.reset.memSound = true := by decide

theorem State.memSound_writeLfb {s : State} {i : Nat} (v : Byte) (hi : i < Config.NPIX) (h : s.memSound = true) :
    (s.writeLfb i v).memSound = true := by
  rw [State.memSound_iff] at h ⊢
  exact ⟨Memory.sound_write v hi h.1, h.2⟩

theorem State.memSound_writeStage {s : State} {i : Nat} (v : Byte) (hi : i < Config.NPAIR) (h : s.memSound = true) :
    (s.writeStage i v).memSound = true := by
  rw [State.memSound_iff] at h ⊢
  exact ⟨h.1, Memory.sound_write v hi h.2.1, h.2.2⟩

theorem State.memSound_writeCga {s : State} {off : Nat} (v : Byte) (ho : off < Config.CGA_SIZE) (h : s.memSound = true) :
    (s.writeCga off v).memSound = true := by
  rw [State.memSound_iff] at h ⊢
  exact ⟨h.1, h.2.1, Memory.sound_write v ho h.2.2.1, h.2.2.2⟩

theorem State.memSound_crtcWrite {s : State} (r v : Byte) (h : s.memSound = true) : (s.crtcWrite r v).memSound = true := by
  rw [State.memSound_iff] at h ⊢
  exact ⟨h.1, h.2.1, h.2.2.1, Memory.sound_write v r.isLt h.2.2.2.1, h.2.2.2.2⟩

theorem State.memSound_writeEga {s : State} (p : Fin 4) {a : Nat} (v : Byte) (ha : a < s.cfg.egaPlaneSize) (h : s.memSound = true) :
    (s.writeEga p a v).memSound = true := by
  rw [State.memSound_iff] at h ⊢
  refine ⟨h.1, h.2.1, h.2.2.1, h.2.2.2.1, fun q => ?_⟩
  show (((s.adapter.egahw.write p a v).plane q).sound s.cfg.egaPlaneSize) = true
  rw [EgaPlanes.plane_write]
  split
  · exact Memory.sound_write v ha (h.2.2.2.2 p)
  · exact h.2.2.2.2 q

theorem State.memSound_svcSetMode {s : State} (m : Byte) (h : s.memSound = true) : (s.svcSetMode m).memSound = true := by
  rw [State.memSound_iff] at h ⊢
  refine ⟨h.1, h.2.1, rfl, ?_, fun p => ?_⟩
  · show Memory.sound 256 (if m = s.cfg.modeEga then startAddressRegs s.cfg s.cfg.pageA else []) = true
    split
    · exact Memory.sound_write _ (BitVec.isLt _) (Memory.sound_write _ (BitVec.isLt _) rfl)
    · rfl
  · show ((EgaPlanes.unwritten.plane p).sound s.cfg.egaPlaneSize) = true
    rw [EgaPlanes.plane_unwritten]; rfl

/-! Updates that touch no memory. -/

@[simp] theorem State.memSound_emit (s : State) (e : Event) : (s.emit e).memSound = s.memSound := rfl
@[simp] theorem State.memSound_jump (s : State) (a : Byte) : (s.jump a).memSound = s.memSound := rfl
@[simp] theorem State.memSound_advance (s : State) : s.advance.memSound = s.memSound := rfl
@[simp] theorem State.memSound_advanceUnless (s : State) (b : Bool) : (s.advanceUnless b).memSound = s.memSound := rfl
@[simp] theorem State.memSound_branch (s : State) (b : Bool) (a : Byte) : (s.branch b a).memSound = s.memSound := rfl
@[simp] theorem State.memSound_loopNext (s : State) (n : Nat) : (s.loopNext n).memSound = s.memSound := rfl
@[simp] theorem State.memSound_raise (s : State) (r : Reason) : (s.raise r).memSound = s.memSound := rfl
@[simp] theorem State.memSound_accept (s : State) (a : Byte) : (s.accept a).memSound = s.memSound := rfl
@[simp] theorem State.memSound_complete (s : State) : s.complete.memSound = s.memSound := rfl
@[simp] theorem State.memSound_statusRead (s : State) : s.statusRead.memSound = s.memSound := rfl
@[simp] theorem State.memSound_planeSelect (s : State) (p : Fin 4) : (s.planeSelect p).memSound = s.memSound := rfl
@[simp] theorem State.memSound_askSwitches (s : State) : s.askSwitches.memSound = s.memSound := rfl
@[simp] theorem State.memSound_askSettings (s : State) : s.askSettings.memSound = s.memSound := rfl
@[simp] theorem State.memSound_reportClass (s : State) (c : Byte) : (s.reportClass c).memSound = s.memSound := rfl
@[simp] theorem State.memSound_reply (s : State) (v : Option Word) : (s.reply v).memSound = s.memSound := rfl
@[simp] theorem State.memSound_withInputs (s : State) (l : List Input) : (s.withInputs l).memSound = s.memSound := rfl
@[simp] theorem State.memSound_freeLines (s : State) : s.freeLines.memSound = s.memSound := rfl
@[simp] theorem State.memSound_countFree (s : State) (b : Bool) : (s.countFree b).memSound = s.memSound := rfl
@[simp] theorem State.memSound_driveLines (s : State) (a b : Bool) : (s.driveLines a b).memSound = s.memSound := rfl

end Sys2Proof.Machine
end

