-- ==== Sys2Proof/Laws/State.lean ====
section
/-! SUPPORT. One lemma per field per update of the state, true by rfl, so that no later proof unfolds a record update. -/

namespace Sys2Proof.Machine.State

variable (s : State)

/-! ## writeLfb -/

@[simp] theorem writeLfb_cfg (i : Nat) (v : Byte) : (s.writeLfb i v).cfg = s.cfg := rfl
@[simp] theorem writeLfb_upc (i : Nat) (v : Byte) : (s.writeLfb i v).upc = s.upc := rfl
@[simp] theorem writeLfb_ret (i : Nat) (v : Byte) : (s.writeLfb i v).ret = s.ret := rfl
@[simp] theorem writeLfb_idx (i : Nat) (v : Byte) : (s.writeLfb i v).idx = s.idx := rfl
@[simp] theorem writeLfb_pl (i : Nat) (v : Byte) : (s.writeLfb i v).pl = s.pl := rfl
@[simp] theorem writeLfb_sa (i : Nat) (v : Byte) : (s.writeLfb i v).sa = s.sa := rfl
@[simp] theorem writeLfb_sw (i : Nat) (v : Byte) : (s.writeLfb i v).sw = s.sw := rfl
@[simp] theorem writeLfb_ds (i : Nat) (v : Byte) : (s.writeLfb i v).ds = s.ds := rfl
@[simp] theorem writeLfb_bind (i : Nat) (v : Byte) : (s.writeLfb i v).bind = s.bind := rfl
@[simp] theorem writeLfb_pageVis (i : Nat) (v : Byte) : (s.writeLfb i v).pageVis = s.pageVis := rfl
@[simp] theorem writeLfb_pageAct (i : Nat) (v : Byte) : (s.writeLfb i v).pageAct = s.pageAct := rfl
@[simp] theorem writeLfb_cmd (i : Nat) (v : Byte) : (s.writeLfb i v).cmd = s.cmd := rfl
@[simp] theorem writeLfb_status (i : Nat) (v : Byte) : (s.writeLfb i v).status = s.status := rfl
@[simp] theorem writeLfb_fcode (i : Nat) (v : Byte) : (s.writeLfb i v).fcode = s.fcode := rfl
@[simp] theorem writeLfb_lfb (i : Nat) (v : Byte) : (s.writeLfb i v).lfb = s.lfb.write i v := rfl
@[simp] theorem writeLfb_stage (i : Nat) (v : Byte) : (s.writeLfb i v).stage = s.stage := rfl
@[simp] theorem writeLfb_events (i : Nat) (v : Byte) : (s.writeLfb i v).events = s.events := rfl
@[simp] theorem writeLfb_adapter (i : Nat) (v : Byte) : (s.writeLfb i v).adapter = s.adapter := rfl
@[simp] theorem writeLfb_env (i : Nat) (v : Byte) : (s.writeLfb i v).env = s.env := rfl
@[simp] theorem writeLfb_romPatch (i : Nat) (v : Byte) : (s.writeLfb i v).romPatch = s.romPatch := rfl

/-! ## writeStage -/

@[simp] theorem writeStage_cfg (i : Nat) (v : Byte) : (s.writeStage i v).cfg = s.cfg := rfl
@[simp] theorem writeStage_upc (i : Nat) (v : Byte) : (s.writeStage i v).upc = s.upc := rfl
@[simp] theorem writeStage_ret (i : Nat) (v : Byte) : (s.writeStage i v).ret = s.ret := rfl
@[simp] theorem writeStage_idx (i : Nat) (v : Byte) : (s.writeStage i v).idx = s.idx := rfl
@[simp] theorem writeStage_pl (i : Nat) (v : Byte) : (s.writeStage i v).pl = s.pl := rfl
@[simp] theorem writeStage_sa (i : Nat) (v : Byte) : (s.writeStage i v).sa = s.sa := rfl
@[simp] theorem writeStage_sw (i : Nat) (v : Byte) : (s.writeStage i v).sw = s.sw := rfl
@[simp] theorem writeStage_ds (i : Nat) (v : Byte) : (s.writeStage i v).ds = s.ds := rfl
@[simp] theorem writeStage_bind (i : Nat) (v : Byte) : (s.writeStage i v).bind = s.bind := rfl
@[simp] theorem writeStage_pageVis (i : Nat) (v : Byte) : (s.writeStage i v).pageVis = s.pageVis := rfl
@[simp] theorem writeStage_pageAct (i : Nat) (v : Byte) : (s.writeStage i v).pageAct = s.pageAct := rfl
@[simp] theorem writeStage_cmd (i : Nat) (v : Byte) : (s.writeStage i v).cmd = s.cmd := rfl
@[simp] theorem writeStage_status (i : Nat) (v : Byte) : (s.writeStage i v).status = s.status := rfl
@[simp] theorem writeStage_fcode (i : Nat) (v : Byte) : (s.writeStage i v).fcode = s.fcode := rfl
@[simp] theorem writeStage_lfb (i : Nat) (v : Byte) : (s.writeStage i v).lfb = s.lfb := rfl
@[simp] theorem writeStage_stage (i : Nat) (v : Byte) : (s.writeStage i v).stage = s.stage.write i v := rfl
@[simp] theorem writeStage_events (i : Nat) (v : Byte) : (s.writeStage i v).events = s.events := rfl
@[simp] theorem writeStage_adapter (i : Nat) (v : Byte) : (s.writeStage i v).adapter = s.adapter := rfl
@[simp] theorem writeStage_env (i : Nat) (v : Byte) : (s.writeStage i v).env = s.env := rfl
@[simp] theorem writeStage_romPatch (i : Nat) (v : Byte) : (s.writeStage i v).romPatch = s.romPatch := rfl

/-! ## writeCga -/

@[simp] theorem writeCga_cfg (off : Nat) (v : Byte) : (s.writeCga off v).cfg = s.cfg := rfl
@[simp] theorem writeCga_upc (off : Nat) (v : Byte) : (s.writeCga off v).upc = s.upc := rfl
@[simp] theorem writeCga_ret (off : Nat) (v : Byte) : (s.writeCga off v).ret = s.ret := rfl
@[simp] theorem writeCga_idx (off : Nat) (v : Byte) : (s.writeCga off v).idx = s.idx := rfl
@[simp] theorem writeCga_pl (off : Nat) (v : Byte) : (s.writeCga off v).pl = s.pl := rfl
@[simp] theorem writeCga_sa (off : Nat) (v : Byte) : (s.writeCga off v).sa = s.sa := rfl
@[simp] theorem writeCga_sw (off : Nat) (v : Byte) : (s.writeCga off v).sw = s.sw := rfl
@[simp] theorem writeCga_ds (off : Nat) (v : Byte) : (s.writeCga off v).ds = s.ds := rfl
@[simp] theorem writeCga_bind (off : Nat) (v : Byte) : (s.writeCga off v).bind = s.bind := rfl
@[simp] theorem writeCga_pageVis (off : Nat) (v : Byte) : (s.writeCga off v).pageVis = s.pageVis := rfl
@[simp] theorem writeCga_pageAct (off : Nat) (v : Byte) : (s.writeCga off v).pageAct = s.pageAct := rfl
@[simp] theorem writeCga_cmd (off : Nat) (v : Byte) : (s.writeCga off v).cmd = s.cmd := rfl
@[simp] theorem writeCga_status (off : Nat) (v : Byte) : (s.writeCga off v).status = s.status := rfl
@[simp] theorem writeCga_fcode (off : Nat) (v : Byte) : (s.writeCga off v).fcode = s.fcode := rfl
@[simp] theorem writeCga_lfb (off : Nat) (v : Byte) : (s.writeCga off v).lfb = s.lfb := rfl
@[simp] theorem writeCga_stage (off : Nat) (v : Byte) : (s.writeCga off v).stage = s.stage := rfl
@[simp] theorem writeCga_events (off : Nat) (v : Byte) : (s.writeCga off v).events = .hwWriteCga off v :: s.events := rfl
@[simp] theorem writeCga_adapter (off : Nat) (v : Byte) : (s.writeCga off v).adapter = { s.adapter with cgahw := s.adapter.cgahw.write off v } := rfl
@[simp] theorem writeCga_env (off : Nat) (v : Byte) : (s.writeCga off v).env = s.env := rfl
@[simp] theorem writeCga_romPatch (off : Nat) (v : Byte) : (s.writeCga off v).romPatch = s.romPatch := rfl

/-! ## writeEga -/

@[simp] theorem writeEga_cfg (p : Fin 4) (a : Nat) (v : Byte) : (s.writeEga p a v).cfg = s.cfg := rfl
@[simp] theorem writeEga_upc (p : Fin 4) (a : Nat) (v : Byte) : (s.writeEga p a v).upc = s.upc := rfl
@[simp] theorem writeEga_ret (p : Fin 4) (a : Nat) (v : Byte) : (s.writeEga p a v).ret = s.ret := rfl
@[simp] theorem writeEga_idx (p : Fin 4) (a : Nat) (v : Byte) : (s.writeEga p a v).idx = s.idx := rfl
@[simp] theorem writeEga_pl (p : Fin 4) (a : Nat) (v : Byte) : (s.writeEga p a v).pl = s.pl := rfl
@[simp] theorem writeEga_sa (p : Fin 4) (a : Nat) (v : Byte) : (s.writeEga p a v).sa = s.sa := rfl
@[simp] theorem writeEga_sw (p : Fin 4) (a : Nat) (v : Byte) : (s.writeEga p a v).sw = s.sw := rfl
@[simp] theorem writeEga_ds (p : Fin 4) (a : Nat) (v : Byte) : (s.writeEga p a v).ds = s.ds := rfl
@[simp] theorem writeEga_bind (p : Fin 4) (a : Nat) (v : Byte) : (s.writeEga p a v).bind = s.bind := rfl
@[simp] theorem writeEga_pageVis (p : Fin 4) (a : Nat) (v : Byte) : (s.writeEga p a v).pageVis = s.pageVis := rfl
@[simp] theorem writeEga_pageAct (p : Fin 4) (a : Nat) (v : Byte) : (s.writeEga p a v).pageAct = s.pageAct := rfl
@[simp] theorem writeEga_cmd (p : Fin 4) (a : Nat) (v : Byte) : (s.writeEga p a v).cmd = s.cmd := rfl
@[simp] theorem writeEga_status (p : Fin 4) (a : Nat) (v : Byte) : (s.writeEga p a v).status = s.status := rfl
@[simp] theorem writeEga_fcode (p : Fin 4) (a : Nat) (v : Byte) : (s.writeEga p a v).fcode = s.fcode := rfl
@[simp] theorem writeEga_lfb (p : Fin 4) (a : Nat) (v : Byte) : (s.writeEga p a v).lfb = s.lfb := rfl
@[simp] theorem writeEga_stage (p : Fin 4) (a : Nat) (v : Byte) : (s.writeEga p a v).stage = s.stage := rfl
@[simp] theorem writeEga_events (p : Fin 4) (a : Nat) (v : Byte) : (s.writeEga p a v).events = .hwWriteEga p a v :: s.events := rfl
@[simp] theorem writeEga_adapter (p : Fin 4) (a : Nat) (v : Byte) : (s.writeEga p a v).adapter = { s.adapter with egahw := s.adapter.egahw.write p a v } := rfl
@[simp] theorem writeEga_env (p : Fin 4) (a : Nat) (v : Byte) : (s.writeEga p a v).env = s.env := rfl
@[simp] theorem writeEga_romPatch (p : Fin 4) (a : Nat) (v : Byte) : (s.writeEga p a v).romPatch = s.romPatch := rfl

/-! ## crtcWrite -/

@[simp] theorem crtcWrite_cfg (r v : Byte) : (s.crtcWrite r v).cfg = s.cfg := rfl
@[simp] theorem crtcWrite_upc (r v : Byte) : (s.crtcWrite r v).upc = s.upc := rfl
@[simp] theorem crtcWrite_ret (r v : Byte) : (s.crtcWrite r v).ret = s.ret := rfl
@[simp] theorem crtcWrite_idx (r v : Byte) : (s.crtcWrite r v).idx = s.idx := rfl
@[simp] theorem crtcWrite_pl (r v : Byte) : (s.crtcWrite r v).pl = s.pl := rfl
@[simp] theorem crtcWrite_sa (r v : Byte) : (s.crtcWrite r v).sa = s.sa := rfl
@[simp] theorem crtcWrite_sw (r v : Byte) : (s.crtcWrite r v).sw = s.sw := rfl
@[simp] theorem crtcWrite_ds (r v : Byte) : (s.crtcWrite r v).ds = s.ds := rfl
@[simp] theorem crtcWrite_bind (r v : Byte) : (s.crtcWrite r v).bind = s.bind := rfl
@[simp] theorem crtcWrite_pageVis (r v : Byte) : (s.crtcWrite r v).pageVis = s.pageVis := rfl
@[simp] theorem crtcWrite_pageAct (r v : Byte) : (s.crtcWrite r v).pageAct = s.pageAct := rfl
@[simp] theorem crtcWrite_cmd (r v : Byte) : (s.crtcWrite r v).cmd = s.cmd := rfl
@[simp] theorem crtcWrite_status (r v : Byte) : (s.crtcWrite r v).status = s.status := rfl
@[simp] theorem crtcWrite_fcode (r v : Byte) : (s.crtcWrite r v).fcode = s.fcode := rfl
@[simp] theorem crtcWrite_lfb (r v : Byte) : (s.crtcWrite r v).lfb = s.lfb := rfl
@[simp] theorem crtcWrite_stage (r v : Byte) : (s.crtcWrite r v).stage = s.stage := rfl
@[simp] theorem crtcWrite_events (r v : Byte) : (s.crtcWrite r v).events = .crtcWrite r v :: s.events := rfl
@[simp] theorem crtcWrite_adapter (r v : Byte) : (s.crtcWrite r v).adapter = { s.adapter with crtc := s.adapter.crtc.write r.toNat v } := rfl
@[simp] theorem crtcWrite_env (r v : Byte) : (s.crtcWrite r v).env = s.env := rfl
@[simp] theorem crtcWrite_romPatch (r v : Byte) : (s.crtcWrite r v).romPatch = s.romPatch := rfl

/-! ## planeSelect -/

@[simp] theorem planeSelect_cfg (p : Fin 4) : (s.planeSelect p).cfg = s.cfg := rfl
@[simp] theorem planeSelect_upc (p : Fin 4) : (s.planeSelect p).upc = s.upc := rfl
@[simp] theorem planeSelect_ret (p : Fin 4) : (s.planeSelect p).ret = s.ret := rfl
@[simp] theorem planeSelect_idx (p : Fin 4) : (s.planeSelect p).idx = s.idx := rfl
@[simp] theorem planeSelect_pl (p : Fin 4) : (s.planeSelect p).pl = s.pl := rfl
@[simp] theorem planeSelect_sa (p : Fin 4) : (s.planeSelect p).sa = s.sa := rfl
@[simp] theorem planeSelect_sw (p : Fin 4) : (s.planeSelect p).sw = s.sw := rfl
@[simp] theorem planeSelect_ds (p : Fin 4) : (s.planeSelect p).ds = s.ds := rfl
@[simp] theorem planeSelect_bind (p : Fin 4) : (s.planeSelect p).bind = s.bind := rfl
@[simp] theorem planeSelect_pageVis (p : Fin 4) : (s.planeSelect p).pageVis = s.pageVis := rfl
@[simp] theorem planeSelect_pageAct (p : Fin 4) : (s.planeSelect p).pageAct = s.pageAct := rfl
@[simp] theorem planeSelect_cmd (p : Fin 4) : (s.planeSelect p).cmd = s.cmd := rfl
@[simp] theorem planeSelect_status (p : Fin 4) : (s.planeSelect p).status = s.status := rfl
@[simp] theorem planeSelect_fcode (p : Fin 4) : (s.planeSelect p).fcode = s.fcode := rfl
@[simp] theorem planeSelect_lfb (p : Fin 4) : (s.planeSelect p).lfb = s.lfb := rfl
@[simp] theorem planeSelect_stage (p : Fin 4) : (s.planeSelect p).stage = s.stage := rfl
@[simp] theorem planeSelect_events (p : Fin 4) : (s.planeSelect p).events = .planeSelect p :: s.events := rfl
@[simp] theorem planeSelect_adapter (p : Fin 4) : (s.planeSelect p).adapter = { s.adapter with plane := some p } := rfl
@[simp] theorem planeSelect_env (p : Fin 4) : (s.planeSelect p).env = s.env := rfl
@[simp] theorem planeSelect_romPatch (p : Fin 4) : (s.planeSelect p).romPatch = s.romPatch := rfl

/-! ## statusRead -/

@[simp] theorem statusRead_cfg : s.statusRead.cfg = s.cfg := rfl
@[simp] theorem statusRead_upc : s.statusRead.upc = s.upc := rfl
@[simp] theorem statusRead_ret : s.statusRead.ret = s.ret := rfl
@[simp] theorem statusRead_idx : s.statusRead.idx = s.idx := rfl
@[simp] theorem statusRead_pl : s.statusRead.pl = s.pl := rfl
@[simp] theorem statusRead_sa : s.statusRead.sa = s.sa := rfl
@[simp] theorem statusRead_sw : s.statusRead.sw = s.sw := rfl
@[simp] theorem statusRead_ds : s.statusRead.ds = s.ds := rfl
@[simp] theorem statusRead_bind : s.statusRead.bind = s.bind := rfl
@[simp] theorem statusRead_pageVis : s.statusRead.pageVis = s.pageVis := rfl
@[simp] theorem statusRead_pageAct : s.statusRead.pageAct = s.pageAct := rfl
@[simp] theorem statusRead_cmd : s.statusRead.cmd = s.cmd := rfl
@[simp] theorem statusRead_status : s.statusRead.status = s.status := rfl
@[simp] theorem statusRead_fcode : s.statusRead.fcode = s.fcode := rfl
@[simp] theorem statusRead_lfb : s.statusRead.lfb = s.lfb := rfl
@[simp] theorem statusRead_stage : s.statusRead.stage = s.stage := rfl
@[simp] theorem statusRead_events : s.statusRead.events = .statusRead s.adapter.vr s.adapter.de :: s.events := rfl
@[simp] theorem statusRead_adapter : s.statusRead.adapter = s.adapter := rfl
@[simp] theorem statusRead_env : s.statusRead.env = s.env := rfl
@[simp] theorem statusRead_romPatch : s.statusRead.romPatch = s.romPatch := rfl

/-! ## svcSetMode -/

@[simp] theorem svcSetMode_cfg (m : Byte) : (s.svcSetMode m).cfg = s.cfg := rfl
@[simp] theorem svcSetMode_upc (m : Byte) : (s.svcSetMode m).upc = s.upc := rfl
@[simp] theorem svcSetMode_ret (m : Byte) : (s.svcSetMode m).ret = s.ret := rfl
@[simp] theorem svcSetMode_idx (m : Byte) : (s.svcSetMode m).idx = s.idx := rfl
@[simp] theorem svcSetMode_pl (m : Byte) : (s.svcSetMode m).pl = s.pl := rfl
@[simp] theorem svcSetMode_sa (m : Byte) : (s.svcSetMode m).sa = s.sa := rfl
@[simp] theorem svcSetMode_sw (m : Byte) : (s.svcSetMode m).sw = s.sw := rfl
@[simp] theorem svcSetMode_ds (m : Byte) : (s.svcSetMode m).ds = s.ds := rfl
@[simp] theorem svcSetMode_bind (m : Byte) : (s.svcSetMode m).bind = s.bind := rfl
@[simp] theorem svcSetMode_pageVis (m : Byte) : (s.svcSetMode m).pageVis = s.pageVis := rfl
@[simp] theorem svcSetMode_pageAct (m : Byte) : (s.svcSetMode m).pageAct = s.pageAct := rfl
@[simp] theorem svcSetMode_cmd (m : Byte) : (s.svcSetMode m).cmd = s.cmd := rfl
@[simp] theorem svcSetMode_status (m : Byte) : (s.svcSetMode m).status = s.status := rfl
@[simp] theorem svcSetMode_fcode (m : Byte) : (s.svcSetMode m).fcode = s.fcode := rfl
@[simp] theorem svcSetMode_lfb (m : Byte) : (s.svcSetMode m).lfb = s.lfb := rfl
@[simp] theorem svcSetMode_stage (m : Byte) : (s.svcSetMode m).stage = s.stage := rfl
@[simp] theorem svcSetMode_events (m : Byte) : (s.svcSetMode m).events = .setMode m :: s.events := rfl
@[simp] theorem svcSetMode_env (m : Byte) : (s.svcSetMode m).env = { s.env with modeCount := s.env.modeCount + 1 } := rfl
@[simp] theorem svcSetMode_romPatch (m : Byte) : (s.svcSetMode m).romPatch = s.romPatch := rfl
@[simp] theorem svcSetMode_adapter_vr (m : Byte) : (s.svcSetMode m).adapter.vr = s.adapter.vr := rfl
@[simp] theorem svcSetMode_adapter_de (m : Byte) : (s.svcSetMode m).adapter.de = s.adapter.de := rfl
@[simp] theorem svcSetMode_adapter_mode (m : Byte) : (s.svcSetMode m).adapter.mode = m := rfl
@[simp] theorem svcSetMode_adapter_plane (m : Byte) : (s.svcSetMode m).adapter.plane = none := rfl
@[simp] theorem svcSetMode_adapter_cgahw (m : Byte) : (s.svcSetMode m).adapter.cgahw = [] := rfl
@[simp] theorem svcSetMode_adapter_egahw (m : Byte) : (s.svcSetMode m).adapter.egahw = EgaPlanes.unwritten := rfl
@[simp] theorem svcSetMode_adapter_crtc (m : Byte) : (s.svcSetMode m).adapter.crtc = if m = s.cfg.modeEga then startAddressRegs s.cfg s.cfg.pageA else [] := rfl
@[simp] theorem svcSetMode_adapter_saLatched (m : Byte) : (s.svcSetMode m).adapter.saLatched = if m = s.cfg.modeEga then s.cfg.pageA else Config.latchAfterMode (s.env.modeCount + 1) := rfl

/-! ## askSwitches -/

@[simp] theorem askSwitches_cfg : s.askSwitches.cfg = s.cfg := rfl
@[simp] theorem askSwitches_upc : s.askSwitches.upc = s.upc := rfl
@[simp] theorem askSwitches_ret : s.askSwitches.ret = s.ret := rfl
@[simp] theorem askSwitches_idx : s.askSwitches.idx = s.idx := rfl
@[simp] theorem askSwitches_pl : s.askSwitches.pl = s.pl := rfl
@[simp] theorem askSwitches_sa : s.askSwitches.sa = s.sa := rfl
@[simp] theorem askSwitches_sw : s.askSwitches.sw = nextAnswer s.env.swAnswers s.env.freeCount := rfl
@[simp] theorem askSwitches_ds : s.askSwitches.ds = s.ds := rfl
@[simp] theorem askSwitches_bind : s.askSwitches.bind = s.bind := rfl
@[simp] theorem askSwitches_pageVis : s.askSwitches.pageVis = s.pageVis := rfl
@[simp] theorem askSwitches_pageAct : s.askSwitches.pageAct = s.pageAct := rfl
@[simp] theorem askSwitches_cmd : s.askSwitches.cmd = s.cmd := rfl
@[simp] theorem askSwitches_status : s.askSwitches.status = s.status := rfl
@[simp] theorem askSwitches_fcode : s.askSwitches.fcode = s.fcode := rfl
@[simp] theorem askSwitches_lfb : s.askSwitches.lfb = s.lfb := rfl
@[simp] theorem askSwitches_stage : s.askSwitches.stage = s.stage := rfl
@[simp] theorem askSwitches_events : s.askSwitches.events = .querySwitches (nextAnswer s.env.swAnswers s.env.freeCount) :: s.events := rfl
@[simp] theorem askSwitches_adapter : s.askSwitches.adapter = s.adapter := rfl
@[simp] theorem askSwitches_env : s.askSwitches.env = { s.env with swAnswers := s.env.swAnswers.tail, freeCount := countAfterAnswer s.env.swAnswers s.env.freeCount } := rfl
@[simp] theorem askSwitches_romPatch : s.askSwitches.romPatch = s.romPatch := rfl

/-! ## askSettings -/

@[simp] theorem askSettings_cfg : s.askSettings.cfg = s.cfg := rfl
@[simp] theorem askSettings_upc : s.askSettings.upc = s.upc := rfl
@[simp] theorem askSettings_ret : s.askSettings.ret = s.ret := rfl
@[simp] theorem askSettings_idx : s.askSettings.idx = s.idx := rfl
@[simp] theorem askSettings_pl : s.askSettings.pl = s.pl := rfl
@[simp] theorem askSettings_sa : s.askSettings.sa = s.sa := rfl
@[simp] theorem askSettings_sw : s.askSettings.sw = s.sw := rfl
@[simp] theorem askSettings_ds : s.askSettings.ds = nextAnswer s.env.dsAnswers s.env.freeCount := rfl
@[simp] theorem askSettings_bind : s.askSettings.bind = s.bind := rfl
@[simp] theorem askSettings_pageVis : s.askSettings.pageVis = s.pageVis := rfl
@[simp] theorem askSettings_pageAct : s.askSettings.pageAct = s.pageAct := rfl
@[simp] theorem askSettings_cmd : s.askSettings.cmd = s.cmd := rfl
@[simp] theorem askSettings_status : s.askSettings.status = s.status := rfl
@[simp] theorem askSettings_fcode : s.askSettings.fcode = s.fcode := rfl
@[simp] theorem askSettings_lfb : s.askSettings.lfb = s.lfb := rfl
@[simp] theorem askSettings_stage : s.askSettings.stage = s.stage := rfl
@[simp] theorem askSettings_events : s.askSettings.events = .querySettings (nextAnswer s.env.dsAnswers s.env.freeCount) :: s.events := rfl
@[simp] theorem askSettings_adapter : s.askSettings.adapter = s.adapter := rfl
@[simp] theorem askSettings_env : s.askSettings.env = { s.env with dsAnswers := s.env.dsAnswers.tail, freeCount := countAfterAnswer s.env.dsAnswers s.env.freeCount } := rfl
@[simp] theorem askSettings_romPatch : s.askSettings.romPatch = s.romPatch := rfl

/-! ## emit -/

@[simp] theorem emit_cfg (e : Event) : (s.emit e).cfg = s.cfg := rfl
@[simp] theorem emit_upc (e : Event) : (s.emit e).upc = s.upc := rfl
@[simp] theorem emit_ret (e : Event) : (s.emit e).ret = s.ret := rfl
@[simp] theorem emit_idx (e : Event) : (s.emit e).idx = s.idx := rfl
@[simp] theorem emit_pl (e : Event) : (s.emit e).pl = s.pl := rfl
@[simp] theorem emit_sa (e : Event) : (s.emit e).sa = s.sa := rfl
@[simp] theorem emit_sw (e : Event) : (s.emit e).sw = s.sw := rfl
@[simp] theorem emit_ds (e : Event) : (s.emit e).ds = s.ds := rfl
@[simp] theorem emit_bind (e : Event) : (s.emit e).bind = s.bind := rfl
@[simp] theorem emit_pageVis (e : Event) : (s.emit e).pageVis = s.pageVis := rfl
@[simp] theorem emit_pageAct (e : Event) : (s.emit e).pageAct = s.pageAct := rfl
@[simp] theorem emit_cmd (e : Event) : (s.emit e).cmd = s.cmd := rfl
@[simp] theorem emit_status (e : Event) : (s.emit e).status = s.status := rfl
@[simp] theorem emit_fcode (e : Event) : (s.emit e).fcode = s.fcode := rfl
@[simp] theorem emit_lfb (e : Event) : (s.emit e).lfb = s.lfb := rfl
@[simp] theorem emit_stage (e : Event) : (s.emit e).stage = s.stage := rfl
@[simp] theorem emit_events (e : Event) : (s.emit e).events = e :: s.events := rfl
@[simp] theorem emit_adapter (e : Event) : (s.emit e).adapter = s.adapter := rfl
@[simp] theorem emit_env (e : Event) : (s.emit e).env = s.env := rfl
@[simp] theorem emit_romPatch (e : Event) : (s.emit e).romPatch = s.romPatch := rfl

/-! ## jump -/

@[simp] theorem jump_cfg (a : Byte) : (s.jump a).cfg = s.cfg := rfl
@[simp] theorem jump_upc (a : Byte) : (s.jump a).upc = a := rfl
@[simp] theorem jump_ret (a : Byte) : (s.jump a).ret = s.ret := rfl
@[simp] theorem jump_idx (a : Byte) : (s.jump a).idx = s.idx := rfl
@[simp] theorem jump_pl (a : Byte) : (s.jump a).pl = s.pl := rfl
@[simp] theorem jump_sa (a : Byte) : (s.jump a).sa = s.sa := rfl
@[simp] theorem jump_sw (a : Byte) : (s.jump a).sw = s.sw := rfl
@[simp] theorem jump_ds (a : Byte) : (s.jump a).ds = s.ds := rfl
@[simp] theorem jump_bind (a : Byte) : (s.jump a).bind = s.bind := rfl
@[simp] theorem jump_pageVis (a : Byte) : (s.jump a).pageVis = s.pageVis := rfl
@[simp] theorem jump_pageAct (a : Byte) : (s.jump a).pageAct = s.pageAct := rfl
@[simp] theorem jump_cmd (a : Byte) : (s.jump a).cmd = s.cmd := rfl
@[simp] theorem jump_status (a : Byte) : (s.jump a).status = s.status := rfl
@[simp] theorem jump_fcode (a : Byte) : (s.jump a).fcode = s.fcode := rfl
@[simp] theorem jump_lfb (a : Byte) : (s.jump a).lfb = s.lfb := rfl
@[simp] theorem jump_stage (a : Byte) : (s.jump a).stage = s.stage := rfl
@[simp] theorem jump_events (a : Byte) : (s.jump a).events = s.events := rfl
@[simp] theorem jump_adapter (a : Byte) : (s.jump a).adapter = s.adapter := rfl
@[simp] theorem jump_env (a : Byte) : (s.jump a).env = s.env := rfl
@[simp] theorem jump_romPatch (a : Byte) : (s.jump a).romPatch = s.romPatch := rfl

/-! ## advance -/

@[simp] theorem advance_cfg : s.advance.cfg = s.cfg := rfl
@[simp] theorem advance_upc : s.advance.upc = s.upc + 1#8 := rfl
@[simp] theorem advance_ret : s.advance.ret = s.ret := rfl
@[simp] theorem advance_idx : s.advance.idx = s.idx := rfl
@[simp] theorem advance_pl : s.advance.pl = s.pl := rfl
@[simp] theorem advance_sa : s.advance.sa = s.sa := rfl
@[simp] theorem advance_sw : s.advance.sw = s.sw := rfl
@[simp] theorem advance_ds : s.advance.ds = s.ds := rfl
@[simp] theorem advance_bind : s.advance.bind = s.bind := rfl
@[simp] theorem advance_pageVis : s.advance.pageVis = s.pageVis := rfl
@[simp] theorem advance_pageAct : s.advance.pageAct = s.pageAct := rfl
@[simp] theorem advance_cmd : s.advance.cmd = s.cmd := rfl
@[simp] theorem advance_status : s.advance.status = s.status := rfl
@[simp] theorem advance_fcode : s.advance.fcode = s.fcode := rfl
@[simp] theorem advance_lfb : s.advance.lfb = s.lfb := rfl
@[simp] theorem advance_stage : s.advance.stage = s.stage := rfl
@[simp] theorem advance_events : s.advance.events = s.events := rfl
@[simp] theorem advance_adapter : s.advance.adapter = s.adapter := rfl
@[simp] theorem advance_env : s.advance.env = s.env := rfl
@[simp] theorem advance_romPatch : s.advance.romPatch = s.romPatch := rfl

/-! ## advanceUnless -/

@[simp] theorem advanceUnless_cfg (stay : Bool) : (s.advanceUnless stay).cfg = s.cfg := rfl
@[simp] theorem advanceUnless_upc (stay : Bool) : (s.advanceUnless stay).upc = if stay then s.upc else s.upc + 1#8 := rfl
@[simp] theorem advanceUnless_ret (stay : Bool) : (s.advanceUnless stay).ret = s.ret := rfl
@[simp] theorem advanceUnless_idx (stay : Bool) : (s.advanceUnless stay).idx = s.idx := rfl
@[simp] theorem advanceUnless_pl (stay : Bool) : (s.advanceUnless stay).pl = s.pl := rfl
@[simp] theorem advanceUnless_sa (stay : Bool) : (s.advanceUnless stay).sa = s.sa := rfl
@[simp] theorem advanceUnless_sw (stay : Bool) : (s.advanceUnless stay).sw = s.sw := rfl
@[simp] theorem advanceUnless_ds (stay : Bool) : (s.advanceUnless stay).ds = s.ds := rfl
@[simp] theorem advanceUnless_bind (stay : Bool) : (s.advanceUnless stay).bind = s.bind := rfl
@[simp] theorem advanceUnless_pageVis (stay : Bool) : (s.advanceUnless stay).pageVis = s.pageVis := rfl
@[simp] theorem advanceUnless_pageAct (stay : Bool) : (s.advanceUnless stay).pageAct = s.pageAct := rfl
@[simp] theorem advanceUnless_cmd (stay : Bool) : (s.advanceUnless stay).cmd = s.cmd := rfl
@[simp] theorem advanceUnless_status (stay : Bool) : (s.advanceUnless stay).status = s.status := rfl
@[simp] theorem advanceUnless_fcode (stay : Bool) : (s.advanceUnless stay).fcode = s.fcode := rfl
@[simp] theorem advanceUnless_lfb (stay : Bool) : (s.advanceUnless stay).lfb = s.lfb := rfl
@[simp] theorem advanceUnless_stage (stay : Bool) : (s.advanceUnless stay).stage = s.stage := rfl
@[simp] theorem advanceUnless_events (stay : Bool) : (s.advanceUnless stay).events = s.events := rfl
@[simp] theorem advanceUnless_adapter (stay : Bool) : (s.advanceUnless stay).adapter = s.adapter := rfl
@[simp] theorem advanceUnless_env (stay : Bool) : (s.advanceUnless stay).env = s.env := rfl
@[simp] theorem advanceUnless_romPatch (stay : Bool) : (s.advanceUnless stay).romPatch = s.romPatch := rfl

/-! ## branch -/

@[simp] theorem branch_cfg (taken : Bool) (a : Byte) : (s.branch taken a).cfg = s.cfg := rfl
@[simp] theorem branch_upc (taken : Bool) (a : Byte) : (s.branch taken a).upc = if taken then a else s.upc + 1#8 := rfl
@[simp] theorem branch_ret (taken : Bool) (a : Byte) : (s.branch taken a).ret = s.ret := rfl
@[simp] theorem branch_idx (taken : Bool) (a : Byte) : (s.branch taken a).idx = s.idx := rfl
@[simp] theorem branch_pl (taken : Bool) (a : Byte) : (s.branch taken a).pl = s.pl := rfl
@[simp] theorem branch_sa (taken : Bool) (a : Byte) : (s.branch taken a).sa = s.sa := rfl
@[simp] theorem branch_sw (taken : Bool) (a : Byte) : (s.branch taken a).sw = s.sw := rfl
@[simp] theorem branch_ds (taken : Bool) (a : Byte) : (s.branch taken a).ds = s.ds := rfl
@[simp] theorem branch_bind (taken : Bool) (a : Byte) : (s.branch taken a).bind = s.bind := rfl
@[simp] theorem branch_pageVis (taken : Bool) (a : Byte) : (s.branch taken a).pageVis = s.pageVis := rfl
@[simp] theorem branch_pageAct (taken : Bool) (a : Byte) : (s.branch taken a).pageAct = s.pageAct := rfl
@[simp] theorem branch_cmd (taken : Bool) (a : Byte) : (s.branch taken a).cmd = s.cmd := rfl
@[simp] theorem branch_status (taken : Bool) (a : Byte) : (s.branch taken a).status = s.status := rfl
@[simp] theorem branch_fcode (taken : Bool) (a : Byte) : (s.branch taken a).fcode = s.fcode := rfl
@[simp] theorem branch_lfb (taken : Bool) (a : Byte) : (s.branch taken a).lfb = s.lfb := rfl
@[simp] theorem branch_stage (taken : Bool) (a : Byte) : (s.branch taken a).stage = s.stage := rfl
@[simp] theorem branch_events (taken : Bool) (a : Byte) : (s.branch taken a).events = s.events := rfl
@[simp] theorem branch_adapter (taken : Bool) (a : Byte) : (s.branch taken a).adapter = s.adapter := rfl
@[simp] theorem branch_env (taken : Bool) (a : Byte) : (s.branch taken a).env = s.env := rfl
@[simp] theorem branch_romPatch (taken : Bool) (a : Byte) : (s.branch taken a).romPatch = s.romPatch := rfl

/-! ## loopNext -/

@[simp] theorem loopNext_cfg (last : Nat) : (s.loopNext last).cfg = s.cfg := rfl
@[simp] theorem loopNext_upc (last : Nat) : (s.loopNext last).upc = if s.idx.toNat = last then s.upc + 1#8 else s.upc := rfl
@[simp] theorem loopNext_ret (last : Nat) : (s.loopNext last).ret = s.ret := rfl
@[simp] theorem loopNext_idx (last : Nat) : (s.loopNext last).idx = if s.idx.toNat = last then 0#14 else s.idx + 1#14 := rfl
@[simp] theorem loopNext_pl (last : Nat) : (s.loopNext last).pl = s.pl := rfl
@[simp] theorem loopNext_sa (last : Nat) : (s.loopNext last).sa = s.sa := rfl
@[simp] theorem loopNext_sw (last : Nat) : (s.loopNext last).sw = s.sw := rfl
@[simp] theorem loopNext_ds (last : Nat) : (s.loopNext last).ds = s.ds := rfl
@[simp] theorem loopNext_bind (last : Nat) : (s.loopNext last).bind = s.bind := rfl
@[simp] theorem loopNext_pageVis (last : Nat) : (s.loopNext last).pageVis = s.pageVis := rfl
@[simp] theorem loopNext_pageAct (last : Nat) : (s.loopNext last).pageAct = s.pageAct := rfl
@[simp] theorem loopNext_cmd (last : Nat) : (s.loopNext last).cmd = s.cmd := rfl
@[simp] theorem loopNext_status (last : Nat) : (s.loopNext last).status = s.status := rfl
@[simp] theorem loopNext_fcode (last : Nat) : (s.loopNext last).fcode = s.fcode := rfl
@[simp] theorem loopNext_lfb (last : Nat) : (s.loopNext last).lfb = s.lfb := rfl
@[simp] theorem loopNext_stage (last : Nat) : (s.loopNext last).stage = s.stage := rfl
@[simp] theorem loopNext_events (last : Nat) : (s.loopNext last).events = s.events := rfl
@[simp] theorem loopNext_adapter (last : Nat) : (s.loopNext last).adapter = s.adapter := rfl
@[simp] theorem loopNext_env (last : Nat) : (s.loopNext last).env = s.env := rfl
@[simp] theorem loopNext_romPatch (last : Nat) : (s.loopNext last).romPatch = s.romPatch := rfl

/-! ## raise -/

@[simp] theorem raise_cfg (r : Reason) : (s.raise r).cfg = s.cfg := rfl
@[simp] theorem raise_upc (r : Reason) : (s.raise r).upc = s.upc := rfl
@[simp] theorem raise_ret (r : Reason) : (s.raise r).ret = s.ret := rfl
@[simp] theorem raise_idx (r : Reason) : (s.raise r).idx = s.idx := rfl
@[simp] theorem raise_pl (r : Reason) : (s.raise r).pl = s.pl := rfl
@[simp] theorem raise_sa (r : Reason) : (s.raise r).sa = s.sa := rfl
@[simp] theorem raise_sw (r : Reason) : (s.raise r).sw = s.sw := rfl
@[simp] theorem raise_ds (r : Reason) : (s.raise r).ds = s.ds := rfl
@[simp] theorem raise_bind (r : Reason) : (s.raise r).bind = s.bind := rfl
@[simp] theorem raise_pageVis (r : Reason) : (s.raise r).pageVis = s.pageVis := rfl
@[simp] theorem raise_pageAct (r : Reason) : (s.raise r).pageAct = s.pageAct := rfl
@[simp] theorem raise_cmd (r : Reason) : (s.raise r).cmd = s.cmd := rfl
@[simp] theorem raise_status (r : Reason) : (s.raise r).status = { s.status with fault := true } := rfl
@[simp] theorem raise_fcode (r : Reason) : (s.raise r).fcode = if s.status.fault then s.fcode else r.code := rfl
@[simp] theorem raise_lfb (r : Reason) : (s.raise r).lfb = s.lfb := rfl
@[simp] theorem raise_stage (r : Reason) : (s.raise r).stage = s.stage := rfl
@[simp] theorem raise_events (r : Reason) : (s.raise r).events = .refused r :: s.events := rfl
@[simp] theorem raise_adapter (r : Reason) : (s.raise r).adapter = s.adapter := rfl
@[simp] theorem raise_env (r : Reason) : (s.raise r).env = s.env := rfl
@[simp] theorem raise_romPatch (r : Reason) : (s.raise r).romPatch = s.romPatch := rfl

/-! ## accept -/

@[simp] theorem accept_cfg (entry : Byte) : (s.accept entry).cfg = s.cfg := rfl
@[simp] theorem accept_upc (entry : Byte) : (s.accept entry).upc = entry := rfl
@[simp] theorem accept_ret (entry : Byte) : (s.accept entry).ret = s.ret := rfl
@[simp] theorem accept_idx (entry : Byte) : (s.accept entry).idx = s.idx := rfl
@[simp] theorem accept_pl (entry : Byte) : (s.accept entry).pl = s.pl := rfl
@[simp] theorem accept_sa (entry : Byte) : (s.accept entry).sa = s.sa := rfl
@[simp] theorem accept_sw (entry : Byte) : (s.accept entry).sw = s.sw := rfl
@[simp] theorem accept_ds (entry : Byte) : (s.accept entry).ds = s.ds := rfl
@[simp] theorem accept_bind (entry : Byte) : (s.accept entry).bind = s.bind := rfl
@[simp] theorem accept_pageVis (entry : Byte) : (s.accept entry).pageVis = s.pageVis := rfl
@[simp] theorem accept_pageAct (entry : Byte) : (s.accept entry).pageAct = s.pageAct := rfl
@[simp] theorem accept_cmd (entry : Byte) : (s.accept entry).cmd = s.cmd := rfl
@[simp] theorem accept_status (entry : Byte) : (s.accept entry).status = { s.status with busy := true } := rfl
@[simp] theorem accept_fcode (entry : Byte) : (s.accept entry).fcode = s.fcode := rfl
@[simp] theorem accept_lfb (entry : Byte) : (s.accept entry).lfb = s.lfb := rfl
@[simp] theorem accept_stage (entry : Byte) : (s.accept entry).stage = s.stage := rfl
@[simp] theorem accept_events (entry : Byte) : (s.accept entry).events = s.events := rfl
@[simp] theorem accept_adapter (entry : Byte) : (s.accept entry).adapter = s.adapter := rfl
@[simp] theorem accept_env (entry : Byte) : (s.accept entry).env = s.env := rfl
@[simp] theorem accept_romPatch (entry : Byte) : (s.accept entry).romPatch = s.romPatch := rfl

/-! ## complete -/

@[simp] theorem complete_cfg : s.complete.cfg = s.cfg := rfl
@[simp] theorem complete_upc : s.complete.upc = 0x00#8 := rfl
@[simp] theorem complete_ret : s.complete.ret = s.ret := rfl
@[simp] theorem complete_idx : s.complete.idx = s.idx := rfl
@[simp] theorem complete_pl : s.complete.pl = s.pl := rfl
@[simp] theorem complete_sa : s.complete.sa = s.sa := rfl
@[simp] theorem complete_sw : s.complete.sw = s.sw := rfl
@[simp] theorem complete_ds : s.complete.ds = s.ds := rfl
@[simp] theorem complete_bind : s.complete.bind = s.bind := rfl
@[simp] theorem complete_pageVis : s.complete.pageVis = s.pageVis := rfl
@[simp] theorem complete_pageAct : s.complete.pageAct = s.pageAct := rfl
@[simp] theorem complete_cmd : s.complete.cmd = s.cmd := rfl
@[simp] theorem complete_status : s.complete.status = { s.status with busy := false } := rfl
@[simp] theorem complete_fcode : s.complete.fcode = s.fcode := rfl
@[simp] theorem complete_lfb : s.complete.lfb = s.lfb := rfl
@[simp] theorem complete_stage : s.complete.stage = s.stage := rfl
@[simp] theorem complete_events : s.complete.events = .done :: s.events := rfl
@[simp] theorem complete_adapter : s.complete.adapter = s.adapter := rfl
@[simp] theorem complete_env : s.complete.env = s.env := rfl
@[simp] theorem complete_romPatch : s.complete.romPatch = s.romPatch := rfl

/-! ## reportClass -/

@[simp] theorem reportClass_cfg (c : Byte) : (s.reportClass c).cfg = s.cfg := rfl
@[simp] theorem reportClass_upc (c : Byte) : (s.reportClass c).upc = s.upc := rfl
@[simp] theorem reportClass_ret (c : Byte) : (s.reportClass c).ret = s.ret := rfl
@[simp] theorem reportClass_idx (c : Byte) : (s.reportClass c).idx = s.idx := rfl
@[simp] theorem reportClass_pl (c : Byte) : (s.reportClass c).pl = s.pl := rfl
@[simp] theorem reportClass_sa (c : Byte) : (s.reportClass c).sa = s.sa := rfl
@[simp] theorem reportClass_sw (c : Byte) : (s.reportClass c).sw = s.sw := rfl
@[simp] theorem reportClass_ds (c : Byte) : (s.reportClass c).ds = s.ds := rfl
@[simp] theorem reportClass_bind (c : Byte) : (s.reportClass c).bind = s.bind := rfl
@[simp] theorem reportClass_pageVis (c : Byte) : (s.reportClass c).pageVis = s.pageVis := rfl
@[simp] theorem reportClass_pageAct (c : Byte) : (s.reportClass c).pageAct = s.pageAct := rfl
@[simp] theorem reportClass_cmd (c : Byte) : (s.reportClass c).cmd = s.cmd := rfl
@[simp] theorem reportClass_status (c : Byte) : (s.reportClass c).status = { s.status with cfgd := true, unsup := s.status.unsup || c == Config.CLASS_NONE } := rfl
@[simp] theorem reportClass_fcode (c : Byte) : (s.reportClass c).fcode = s.fcode := rfl
@[simp] theorem reportClass_lfb (c : Byte) : (s.reportClass c).lfb = s.lfb := rfl
@[simp] theorem reportClass_stage (c : Byte) : (s.reportClass c).stage = s.stage := rfl
@[simp] theorem reportClass_events (c : Byte) : (s.reportClass c).events = .report c :: s.events := rfl
@[simp] theorem reportClass_adapter (c : Byte) : (s.reportClass c).adapter = s.adapter := rfl
@[simp] theorem reportClass_env (c : Byte) : (s.reportClass c).env = s.env := rfl
@[simp] theorem reportClass_romPatch (c : Byte) : (s.reportClass c).romPatch = s.romPatch := rfl

/-! ## reply -/

@[simp] theorem reply_cfg (v : Option Word) : (s.reply v).cfg = s.cfg := rfl
@[simp] theorem reply_upc (v : Option Word) : (s.reply v).upc = s.upc := rfl
@[simp] theorem reply_ret (v : Option Word) : (s.reply v).ret = s.ret := rfl
@[simp] theorem reply_idx (v : Option Word) : (s.reply v).idx = s.idx := rfl
@[simp] theorem reply_pl (v : Option Word) : (s.reply v).pl = s.pl := rfl
@[simp] theorem reply_sa (v : Option Word) : (s.reply v).sa = s.sa := rfl
@[simp] theorem reply_sw (v : Option Word) : (s.reply v).sw = s.sw := rfl
@[simp] theorem reply_ds (v : Option Word) : (s.reply v).ds = s.ds := rfl
@[simp] theorem reply_bind (v : Option Word) : (s.reply v).bind = s.bind := rfl
@[simp] theorem reply_pageVis (v : Option Word) : (s.reply v).pageVis = s.pageVis := rfl
@[simp] theorem reply_pageAct (v : Option Word) : (s.reply v).pageAct = s.pageAct := rfl
@[simp] theorem reply_cmd (v : Option Word) : (s.reply v).cmd = s.cmd := rfl
@[simp] theorem reply_status (v : Option Word) : (s.reply v).status = s.status := rfl
@[simp] theorem reply_fcode (v : Option Word) : (s.reply v).fcode = s.fcode := rfl
@[simp] theorem reply_lfb (v : Option Word) : (s.reply v).lfb = s.lfb := rfl
@[simp] theorem reply_stage (v : Option Word) : (s.reply v).stage = s.stage := rfl
@[simp] theorem reply_events (v : Option Word) : (s.reply v).events = s.events := rfl
@[simp] theorem reply_adapter (v : Option Word) : (s.reply v).adapter = s.adapter := rfl
@[simp] theorem reply_env (v : Option Word) : (s.reply v).env = { s.env with hostReply := v } := rfl
@[simp] theorem reply_romPatch (v : Option Word) : (s.reply v).romPatch = s.romPatch := rfl

/-! ## withInputs -/

@[simp] theorem withInputs_cfg (rest : List Input) : (s.withInputs rest).cfg = s.cfg := rfl
@[simp] theorem withInputs_upc (rest : List Input) : (s.withInputs rest).upc = s.upc := rfl
@[simp] theorem withInputs_ret (rest : List Input) : (s.withInputs rest).ret = s.ret := rfl
@[simp] theorem withInputs_idx (rest : List Input) : (s.withInputs rest).idx = s.idx := rfl
@[simp] theorem withInputs_pl (rest : List Input) : (s.withInputs rest).pl = s.pl := rfl
@[simp] theorem withInputs_sa (rest : List Input) : (s.withInputs rest).sa = s.sa := rfl
@[simp] theorem withInputs_sw (rest : List Input) : (s.withInputs rest).sw = s.sw := rfl
@[simp] theorem withInputs_ds (rest : List Input) : (s.withInputs rest).ds = s.ds := rfl
@[simp] theorem withInputs_bind (rest : List Input) : (s.withInputs rest).bind = s.bind := rfl
@[simp] theorem withInputs_pageVis (rest : List Input) : (s.withInputs rest).pageVis = s.pageVis := rfl
@[simp] theorem withInputs_pageAct (rest : List Input) : (s.withInputs rest).pageAct = s.pageAct := rfl
@[simp] theorem withInputs_cmd (rest : List Input) : (s.withInputs rest).cmd = s.cmd := rfl
@[simp] theorem withInputs_status (rest : List Input) : (s.withInputs rest).status = s.status := rfl
@[simp] theorem withInputs_fcode (rest : List Input) : (s.withInputs rest).fcode = s.fcode := rfl
@[simp] theorem withInputs_lfb (rest : List Input) : (s.withInputs rest).lfb = s.lfb := rfl
@[simp] theorem withInputs_stage (rest : List Input) : (s.withInputs rest).stage = s.stage := rfl
@[simp] theorem withInputs_events (rest : List Input) : (s.withInputs rest).events = s.events := rfl
@[simp] theorem withInputs_adapter (rest : List Input) : (s.withInputs rest).adapter = s.adapter := rfl
@[simp] theorem withInputs_env (rest : List Input) : (s.withInputs rest).env = { s.env with inputs := rest } := rfl
@[simp] theorem withInputs_romPatch (rest : List Input) : (s.withInputs rest).romPatch = s.romPatch := rfl

/-! ## driveLines -/

@[simp] theorem driveLines_cfg (vr de : Bool) : (s.driveLines vr de).cfg = s.cfg := rfl
@[simp] theorem driveLines_upc (vr de : Bool) : (s.driveLines vr de).upc = s.upc := rfl
@[simp] theorem driveLines_ret (vr de : Bool) : (s.driveLines vr de).ret = s.ret := rfl
@[simp] theorem driveLines_idx (vr de : Bool) : (s.driveLines vr de).idx = s.idx := rfl
@[simp] theorem driveLines_pl (vr de : Bool) : (s.driveLines vr de).pl = s.pl := rfl
@[simp] theorem driveLines_sa (vr de : Bool) : (s.driveLines vr de).sa = s.sa := rfl
@[simp] theorem driveLines_sw (vr de : Bool) : (s.driveLines vr de).sw = s.sw := rfl
@[simp] theorem driveLines_ds (vr de : Bool) : (s.driveLines vr de).ds = s.ds := rfl
@[simp] theorem driveLines_bind (vr de : Bool) : (s.driveLines vr de).bind = s.bind := rfl
@[simp] theorem driveLines_pageVis (vr de : Bool) : (s.driveLines vr de).pageVis = s.pageVis := rfl
@[simp] theorem driveLines_pageAct (vr de : Bool) : (s.driveLines vr de).pageAct = s.pageAct := rfl
@[simp] theorem driveLines_cmd (vr de : Bool) : (s.driveLines vr de).cmd = s.cmd := rfl
@[simp] theorem driveLines_status (vr de : Bool) : (s.driveLines vr de).status = s.status := rfl
@[simp] theorem driveLines_fcode (vr de : Bool) : (s.driveLines vr de).fcode = s.fcode := rfl
@[simp] theorem driveLines_lfb (vr de : Bool) : (s.driveLines vr de).lfb = s.lfb := rfl
@[simp] theorem driveLines_stage (vr de : Bool) : (s.driveLines vr de).stage = s.stage := rfl
@[simp] theorem driveLines_events (vr de : Bool) : (s.driveLines vr de).events = s.events := rfl
@[simp] theorem driveLines_adapter (vr de : Bool) : (s.driveLines vr de).adapter = { s.adapter with vr := vr, de := de, saLatched := if !s.adapter.vr && vr then s.startAddress else s.adapter.saLatched } := rfl
@[simp] theorem driveLines_env (vr de : Bool) : (s.driveLines vr de).env = s.env := rfl
@[simp] theorem driveLines_romPatch (vr de : Bool) : (s.driveLines vr de).romPatch = s.romPatch := rfl

/-! ## freeLines -/

@[simp] theorem freeLines_cfg : s.freeLines.cfg = s.cfg := rfl
@[simp] theorem freeLines_upc : s.freeLines.upc = s.upc := rfl
@[simp] theorem freeLines_ret : s.freeLines.ret = s.ret := rfl
@[simp] theorem freeLines_idx : s.freeLines.idx = s.idx := rfl
@[simp] theorem freeLines_pl : s.freeLines.pl = s.pl := rfl
@[simp] theorem freeLines_sa : s.freeLines.sa = s.sa := rfl
@[simp] theorem freeLines_sw : s.freeLines.sw = s.sw := rfl
@[simp] theorem freeLines_ds : s.freeLines.ds = s.ds := rfl
@[simp] theorem freeLines_bind : s.freeLines.bind = s.bind := rfl
@[simp] theorem freeLines_pageVis : s.freeLines.pageVis = s.pageVis := rfl
@[simp] theorem freeLines_pageAct : s.freeLines.pageAct = s.pageAct := rfl
@[simp] theorem freeLines_cmd : s.freeLines.cmd = s.cmd := rfl
@[simp] theorem freeLines_status : s.freeLines.status = s.status := rfl
@[simp] theorem freeLines_fcode : s.freeLines.fcode = s.fcode := rfl
@[simp] theorem freeLines_lfb : s.freeLines.lfb = s.lfb := rfl
@[simp] theorem freeLines_stage : s.freeLines.stage = s.stage := rfl
@[simp] theorem freeLines_events : s.freeLines.events = s.events := rfl
@[simp] theorem freeLines_adapter : s.freeLines.adapter = (s.driveLines (Config.freeLines s.env.lineCount).1 (Config.freeLines s.env.lineCount).2).adapter := rfl
@[simp] theorem freeLines_env : s.freeLines.env = { s.env with lineCount := s.env.lineCount + 1 } := rfl
@[simp] theorem freeLines_romPatch : s.freeLines.romPatch = s.romPatch := rfl

/-! ## countFree -/

@[simp] theorem countFree_cfg (used : Bool) : (s.countFree used).cfg = s.cfg := rfl
@[simp] theorem countFree_upc (used : Bool) : (s.countFree used).upc = s.upc := rfl
@[simp] theorem countFree_ret (used : Bool) : (s.countFree used).ret = s.ret := rfl
@[simp] theorem countFree_idx (used : Bool) : (s.countFree used).idx = s.idx := rfl
@[simp] theorem countFree_pl (used : Bool) : (s.countFree used).pl = s.pl := rfl
@[simp] theorem countFree_sa (used : Bool) : (s.countFree used).sa = s.sa := rfl
@[simp] theorem countFree_sw (used : Bool) : (s.countFree used).sw = s.sw := rfl
@[simp] theorem countFree_ds (used : Bool) : (s.countFree used).ds = s.ds := rfl
@[simp] theorem countFree_bind (used : Bool) : (s.countFree used).bind = s.bind := rfl
@[simp] theorem countFree_pageVis (used : Bool) : (s.countFree used).pageVis = s.pageVis := rfl
@[simp] theorem countFree_pageAct (used : Bool) : (s.countFree used).pageAct = s.pageAct := rfl
@[simp] theorem countFree_cmd (used : Bool) : (s.countFree used).cmd = s.cmd := rfl
@[simp] theorem countFree_status (used : Bool) : (s.countFree used).status = s.status := rfl
@[simp] theorem countFree_fcode (used : Bool) : (s.countFree used).fcode = s.fcode := rfl
@[simp] theorem countFree_lfb (used : Bool) : (s.countFree used).lfb = s.lfb := rfl
@[simp] theorem countFree_stage (used : Bool) : (s.countFree used).stage = s.stage := rfl
@[simp] theorem countFree_events (used : Bool) : (s.countFree used).events = s.events := rfl
@[simp] theorem countFree_adapter (used : Bool) : (s.countFree used).adapter = s.adapter := rfl
@[simp] theorem countFree_env (used : Bool) : (s.countFree used).env = { s.env with freeCount := if used then s.env.freeCount + 1 else s.env.freeCount } := rfl
@[simp] theorem countFree_romPatch (used : Bool) : (s.countFree used).romPatch = s.romPatch := rfl

/-! ## blockReset -/

@[simp] theorem blockReset_cfg : s.blockReset.cfg = s.cfg := rfl
@[simp] theorem blockReset_upc : s.blockReset.upc = (State.resetWith s.cfg).upc := rfl
@[simp] theorem blockReset_ret : s.blockReset.ret = (State.resetWith s.cfg).ret := rfl
@[simp] theorem blockReset_idx : s.blockReset.idx = (State.resetWith s.cfg).idx := rfl
@[simp] theorem blockReset_pl : s.blockReset.pl = (State.resetWith s.cfg).pl := rfl
@[simp] theorem blockReset_sa : s.blockReset.sa = (State.resetWith s.cfg).sa := rfl
@[simp] theorem blockReset_sw : s.blockReset.sw = (State.resetWith s.cfg).sw := rfl
@[simp] theorem blockReset_ds : s.blockReset.ds = (State.resetWith s.cfg).ds := rfl
@[simp] theorem blockReset_bind : s.blockReset.bind = (State.resetWith s.cfg).bind := rfl
@[simp] theorem blockReset_pageVis : s.blockReset.pageVis = (State.resetWith s.cfg).pageVis := rfl
@[simp] theorem blockReset_pageAct : s.blockReset.pageAct = (State.resetWith s.cfg).pageAct := rfl
@[simp] theorem blockReset_cmd : s.blockReset.cmd = (State.resetWith s.cfg).cmd := rfl
@[simp] theorem blockReset_status : s.blockReset.status = (State.resetWith s.cfg).status := rfl
@[simp] theorem blockReset_fcode : s.blockReset.fcode = (State.resetWith s.cfg).fcode := rfl
@[simp] theorem blockReset_lfb : s.blockReset.lfb = (State.resetWith s.cfg).lfb := rfl
@[simp] theorem blockReset_stage : s.blockReset.stage = (State.resetWith s.cfg).stage := rfl
@[simp] theorem blockReset_events : s.blockReset.events = (State.resetWith s.cfg).events := rfl
@[simp] theorem blockReset_adapter : s.blockReset.adapter = s.adapter := rfl
@[simp] theorem blockReset_env : s.blockReset.env = { s.env with resetCount := s.env.resetCount + 1 } := rfl
@[simp] theorem blockReset_romPatch : s.blockReset.romPatch = s.romPatch := rfl

end Sys2Proof.Machine.State
end

