-- ==== Sys2Proof/Laws/Ops.lean ====
section
/-! SUPPORT. One lemma per shared operation that says everything it can do; proofs cite these and do not unfold. -/

namespace Sys2Proof.Machine

open Sys2Proof.Config (Space)

/-- A checked access answers a next state exactly inside the space. -/
theorem checked_eq_next {sp : Space} {off : Nat} {s t : State} {r : Result} :
    checked sp off s r = .next t ↔ off < s.sizeOf sp ∧ r = .next t := by
  unfold checked; split <;> simp [*]

theorem checked_of_lt {sp : Space} {off : Nat} {s : State} (r : Result) (h : off < s.sizeOf sp) : checked sp off s r = r :=
  if_pos h

theorem checked_of_not_lt {sp : Space} {off : Nat} {s : State} (r : Result) (h : ¬ off < s.sizeOf sp) :
    checked sp off s r = .fault (.offsetOutOfRange sp off) := if_neg h

/-- A checked access never refuses. -/
theorem checked_ne_refused {sp : Space} {off : Nat} {s : State} {r : Result} {q : Refusal} (h : r ≠ .refused q) :
    checked sp off s r ≠ .refused q := by
  unfold checked; split
  · exact h
  · simp

/-! ## The event history -/

@[simp] theorem State.history_reset (p : Config.Params) : (State.resetWith p).history = [] := rfl

/-- Emitting appends to the history. -/
theorem State.history_of_events {s t : State} {e : Event} (h : t.events = e :: s.events) : t.history = s.history ++ [e] := by
  simp [State.history, h]

theorem State.history_of_same {s t : State} (h : t.events = s.events) : t.history = s.history := by
  simp [State.history, h]

/-! ## Cells of LFB and STAGE -/

theorem State.lfbAt_of_read {s : State} {i : Nat} {v : Byte} (h : s.lfb.read? i = some v) : s.lfbAt i = v := by
  simp [State.lfbAt, h]

theorem State.lfbAt_writeLfb (s : State) (i j : Nat) (v : Byte) :
    (s.writeLfb i v).lfbAt j = if j = i then v else s.lfbAt j := by
  simp only [State.lfbAt, State.writeLfb_lfb, State.writeLfb_env, Memory.read?_write]
  split <;> simp

theorem State.stageAt_writeStage (s : State) (i j : Nat) (v : Byte) :
    (s.writeStage i v).stageAt j = if j = i then v else s.stageAt j := by
  simp only [State.stageAt, State.writeStage_stage, State.writeStage_env, Memory.read?_write]
  split <;> simp

/-! ## PACK's pair -/

/-- Both pixels in range: the packed byte is stored and nothing else changes. -/
theorem State.packPair_of_pixels {s : State} {i : Nat} (h0 : (s.lfbAt (pairFirst i)).toNat ≤ 15) (h1 : (s.lfbAt (pairSecond i)).toNat ≤ 15) :
    s.packPair i = s.writeStage i (packByte (s.lfbAt (pairFirst i)) (s.lfbAt (pairSecond i))) := by
  simp [State.packPair, isPixel, h0, h1]

/-- A pixel above 15: the byte stored is the next free byte (30_encoding.md R89). -/
theorem State.packPair_of_not_pixels {s : State} {i : Nat}
    (h : ¬ ((s.lfbAt (pairFirst i)).toNat ≤ 15 ∧ (s.lfbAt (pairSecond i)).toNat ≤ 15)) :
    s.packPair i = { s.writeStage i (Config.freeByte s.env.freeCount) with env := { s.env with freeCount := s.env.freeCount + 1 } } := by
  have : (isPixel (s.lfbAt (pairFirst i)) && isPixel (s.lfbAt (pairSecond i))) = false := by
    rw [Bool.and_eq_false_iff]
    by_cases h0 : (s.lfbAt (pairFirst i)).toNat ≤ 15
    · right; simp [isPixel]; omega
    · left; simp [isPixel]; omega
  simp [State.packPair, this]

/-- Either way the step stores one byte at `i`, and only the count of free bytes may change beside it. -/
theorem State.packPair_cases (s : State) (i : Nat) :
    ∃ v n, s.packPair i = { s with stage := s.stage.write i v, env := { s.env with freeCount := n } } := by
  unfold State.packPair
  split
  · exact ⟨_, s.env.freeCount, rfl⟩
  · exact ⟨_, _, rfl⟩

/-! ## Plane numbers -/

theorem planeOf_of_lt {pl : BitVec 3} (h : pl.toNat < 4) : planeOf pl = some ⟨pl.toNat, h⟩ := dif_pos h

theorem planeOf_of_not_lt {pl : BitVec 3} (h : ¬ pl.toNat < 4) : planeOf pl = none := dif_neg h

theorem planeOf_eq_some {pl : BitVec 3} {p : Fin 4} : planeOf pl = some p ↔ pl.toNat = p.val := by
  unfold planeOf
  split
  · simp [Fin.ext_iff]
  · simp; omega

/-- No free value used: nothing changes. -/
@[simp] theorem State.countFree_false (s : State) : s.countFree false = s := rfl

/-- At a plane counter up to 3, PSEL selects that plane and uses no free value. -/
theorem execPsel_of_plane {s : State} {p : Fin 4} (h : s.pl.toNat = p.val) : execPsel s = .next (s.planeSelect p).advance := by
  simp [execPsel, State.planeCountedOrFree, planeOf_eq_some.2 h]

/-- At a plane counter up to 3, SLICE forms the byte of that plane. -/
theorem State.sliceValue_of_plane {s : State} {p : Fin 4} (n : Nat) (h : s.pl.toNat = p.val) : s.sliceValue n = s.sliceAt n p.val := by
  simp [State.sliceValue, planeOf_eq_some.2 h]

/-- The write of SLICE into the plane `q` selected: the byte, and whether a free value was used. -/
theorem State.sliceWrite_of_selected {s : State} {q : Fin 4} (n : Nat) (h : s.adapter.plane = some q) :
    s.sliceWrite n = .next (((s.writeEga q (s.sliceOffset n) (s.sliceValue n)).countFree (planeOf s.pl).isNone).loopNext 7999) := by
  unfold State.sliceWrite; rw [h]

/-! ## Index arithmetic -/

/-- Inside the 8000 steps of SLICE every source pixel is a cell of the LFB (30_encoding.md R87). -/
theorem sliceSource_lt {n k : Nat} (hn : n < Config.PLANEBYTES) (hk : k < 4) : sliceSource n k < Config.NPIX := by
  simp only [sliceSource, logicalRow, physRow, rowByte, Config.W, Config.GROUP, Config.ROWBYTES, Config.PLANEBYTES, Config.NPIX] at *
  omega

/-- Beyond them the source leaves the LFB. -/
theorem sliceSource_ge {n k : Nat} (hn : Config.PLANEBYTES ≤ n) : Config.NPIX ≤ sliceSource n k := by
  simp only [sliceSource, logicalRow, physRow, rowByte, Config.W, Config.GROUP, Config.ROWBYTES, Config.PLANEBYTES, Config.NPIX] at *
  omega

/-! ## Commands -/

/-- A write to CMD while a command runs is refused; otherwise IDLE's dispatch takes the byte. -/
theorem hostWriteCmd_busy {c : Byte} {s : State} (h : s.status.busy = true) : hostWriteCmd c s = .next (s.raise .busyAccess) := by
  simp [hostWriteCmd, h]

theorem hostWriteCmd_idle {c : Byte} {s : State} (h : s.status.busy = false) :
    hostWriteCmd c s = .next ({ s with cmd := none }.dispatchCommand c) := by
  simp [hostWriteCmd, h, execIdle]

/-- Everything a dispatch can do: accept at one of the five entries, or refuse (44_host_interface.md R170). -/
theorem State.dispatchCommand_cases (s : State) (c : Byte) :
    (c = 0x01#8 ∧ s.status.cfgd = false ∧ s.dispatchCommand c = (s.emit (.cmd c)).accept 0x20#8)
    ∨ (c = 0x01#8 ∧ s.status.cfgd = true ∧ s.dispatchCommand c = (s.emit (.cmd c)).raise .reconfigure)
    ∨ (c = 0x02#8 ∧ s.bind = 1#2 ∧ s.dispatchCommand c = (s.emit (.cmd c)).accept 0x08#8)
    ∨ (c = 0x02#8 ∧ s.bind = 2#2 ∧ s.dispatchCommand c = (s.emit (.cmd c)).accept 0x10#8)
    ∨ (c = 0x02#8 ∧ s.bind ≠ 1#2 ∧ s.bind ≠ 2#2 ∧ s.dispatchCommand c = (s.emit (.cmd c)).raise .unboundPresent)
    ∨ (c = 0x03#8 ∧ s.dispatchCommand c = (s.emit (.cmd c)).accept 0x04#8)
    ∨ (c = 0x04#8 ∧ s.dispatchCommand c = (s.emit (.cmd c)).accept 0x3C#8)
    ∨ (c ≠ 0x01#8 ∧ c ≠ 0x02#8 ∧ c ≠ 0x03#8 ∧ c ≠ 0x04#8 ∧ s.dispatchCommand c = (s.emit (.cmd c)).raise .illegalCommand) := by
  by_cases h1 : c = 0x01#8
  · subst h1; cases h : s.status.cfgd <;> simp [State.dispatchCommand, h]
  by_cases h2 : c = 0x02#8
  · subst h2
    by_cases hb1 : s.bind = 1#2
    · simp [State.dispatchCommand, hb1]
    by_cases hb2 : s.bind = 2#2
    · simp [State.dispatchCommand, hb2]
    · simp [State.dispatchCommand, hb1, hb2]
  by_cases h3 : c = 0x03#8
  · subst h3; simp [State.dispatchCommand]
  by_cases h4 : c = 0x04#8
  · subst h4; simp [State.dispatchCommand]
  · simp [State.dispatchCommand, h1, h2, h3, h4]

/-- The refusal code of a reason is never 0 (10_state.md R24). -/
theorem Reason.code_ne_zero (r : Reason) : r.code ≠ 0#8 := by cases r <;> decide

end Sys2Proof.Machine
end

