-- ==== Sys2Proof/Laws/PerInstr.lean ====
section
/-! SUPPORT. The family TableRow: the code of every instruction is selected by its row of spec/opcode_table.json, "(w & mask) = match" (30_encoding.md R73), and has the row's width. -/

namespace Sys2Proof.Laws.TableRow

/-- Width, mask and match of the instruction's row of spec/opcode_table.json. -/
def row : Instr → Nat × Nat × Nat
  | .config => (8, 0xFF, 0x01) | .present => (8, 0xFF, 0x02) | .waitv => (8, 0xFF, 0x03) | .restore => (8, 0xFF, 0x04)
  | .idle => (16, 0xFFFF, 0x0000) | .done => (16, 0xFFFF, 0x0100) | .call _ => (16, 0xFF00, 0x0200) | .ret => (16, 0xFFFF, 0x0300)
  | .bega _ => (16, 0xFF00, 0x0400) | .bmono _ => (16, 0xFF00, 0x0500) | .plnext _ => (16, 0xFF00, 0x0600)
  | .wvlo => (16, 0xFFFF, 0x1000) | .wvhi => (16, 0xFFFF, 0x1100) | .wde => (16, 0xFFFF, 0x1200)
  | .pack => (16, 0xFFFF, 0x2000) | .copy => (16, 0xFFFF, 0x2100)
  | .plinit => (16, 0xFFFF, 0x3000) | .psel => (16, 0xFFFF, 0x3100) | .slice => (16, 0xFFFF, 0x3200) | .swap => (16, 0xFFFF, 0x3300)
  | .saddr => (16, 0xFFFF, 0x3400) | .sahi => (16, 0xFFFF, 0x3500) | .salo => (16, 0xFFFF, 0x3600)
  | .smode _ => (16, 0xFF00, 0x4000) | .qsw => (16, 0xFFFF, 0x4100) | .qds => (16, 0xFFFF, 0x4200) | .crtcw _ => (16, 0xFF00, 0x4300)
  | .stamp => (16, 0xFFFF, 0x4400) | .lfbclr => (16, 0xFFFF, 0x4500) | .bind _ => (16, 0xFF00, 0x4600) | .report _ => (16, 0xFF00, 0x4700)

/-- The width and the bits of a code. -/
def bits : Code → Nat × Nat
  | .command b => (8, b.toNat)
  | .micro w => (16, w.toNat)

/-- The code has the row's width and the row selects it. -/
abbrev Statement (i : Instr) : Prop :=
  (bits (encode i)).1 = (row i).1 ∧ (bits (encode i)).2 &&& (row i).2.1 = (row i).2.2

/-- Masking a micro-word leaves its op, whatever the argument. -/
theorem op_kept (op a : Byte) : (microWord op a).toNat &&& 0xFF00 = op.toNat * 256 := by
  have h : (microWord op a).toNat = op.toNat <<< 8 ||| a.toNat := BitVec.toNat_append op a
  have hop := op.isLt
  have ha := a.isLt
  refine Nat.eq_of_testBit_eq fun j => ?_
  rw [h, show op.toNat * 256 = op.toNat <<< 8 by simp [Nat.shiftLeft_eq], Nat.testBit_and, Nat.testBit_or, Nat.testBit_shiftLeft]
  by_cases hj : j < 8
  · have : (0xFF00 : Nat).testBit j = false := by interval_cases j <;> rfl
    simp [this]; omega
  · have ha' : a.toNat.testBit j = false := Nat.testBit_lt_two_pow (Nat.lt_of_lt_of_le ha (Nat.pow_le_pow_right (by decide) (by omega : 8 ≤ j)))
    by_cases hj16 : j < 16
    · have : (0xFF00 : Nat).testBit j = true := by interval_cases j <;> rfl
      simp [this, ha']
    · have ho : op.toNat.testBit (j - 8) = false := Nat.testBit_lt_two_pow (Nat.lt_of_lt_of_le hop (Nat.pow_le_pow_right (by decide) (by omega : 8 ≤ j - 8)))
      simp [ha', ho]

theorem config : Statement .config := by decide
theorem present : Statement .present := by decide
theorem waitv : Statement .waitv := by decide
theorem restore : Statement .restore := by decide
theorem idle : Statement .idle := by decide
theorem done : Statement .done := by decide
theorem call (a : Byte) : Statement (.call a) := ⟨rfl, op_kept 0x02#8 a⟩
theorem ret : Statement .ret := by decide
theorem bega (a : Byte) : Statement (.bega a) := ⟨rfl, op_kept 0x04#8 a⟩
theorem bmono (a : Byte) : Statement (.bmono a) := ⟨rfl, op_kept 0x05#8 a⟩
theorem plnext (a : Byte) : Statement (.plnext a) := ⟨rfl, op_kept 0x06#8 a⟩
theorem wvlo : Statement .wvlo := by decide
theorem wvhi : Statement .wvhi := by decide
theorem wde : Statement .wde := by decide
theorem pack : Statement .pack := by decide
theorem copy : Statement .copy := by decide
theorem plinit : Statement .plinit := by decide
theorem psel : Statement .psel := by decide
theorem slice : Statement .slice := by decide
theorem swap : Statement .swap := by decide
theorem saddr : Statement .saddr := by decide
theorem sahi : Statement .sahi := by decide
theorem salo : Statement .salo := by decide
theorem smode (a : Byte) : Statement (.smode a) := ⟨rfl, op_kept 0x40#8 a⟩
theorem qsw : Statement .qsw := by decide
theorem qds : Statement .qds := by decide
theorem crtcw (a : Byte) : Statement (.crtcw a) := ⟨rfl, op_kept 0x43#8 a⟩
theorem stamp : Statement .stamp := by decide
theorem lfbclr : Statement .lfbclr := by decide
theorem bind (a : Byte) : Statement (.bind a) := ⟨rfl, op_kept 0x46#8 a⟩
theorem report (a : Byte) : Statement (.report a) := ⟨rfl, op_kept 0x47#8 a⟩

end Sys2Proof.Laws.TableRow
end

