-- ==== Sys2Proof/Laws/Step.lean ====
section
/-! SUPPORT. What a step of the machine can do: the inversion lemma of `step`, and the equations of its cases. -/

namespace Sys2Proof.Machine

/-- With no move listed, the adapter drives any levels and the block moves. -/
theorem step_of_nil {s : State} (h : s.env.inputs = []) : step s = blockStep s.freeLines := by
  unfold step; rw [h]

/-- With a move listed, it is taken. -/
theorem step_of_cons {s : State} {m : Input} {rest : List Input} (h : s.env.inputs = m :: rest) :
    step s = agentStep m (s.withInputs rest) := by
  unfold step; rw [h]

/-- The block's step runs the instruction the word at UPC decodes to. -/
theorem blockStep_of_decode {s : State} {i : Instr} (h : decodeMicro s.fetchWord = .ok i) : blockStep s = exec i s := by
  unfold blockStep; rw [h]

theorem blockStep_of_reject {s : State} {e : Reject} (h : decodeMicro s.fetchWord = .error e) :
    blockStep s = .fault (.reservedMicroWord s.fetchWord) := by
  unfold blockStep; rw [h]

/-- A write to CMD does the same whether its byte is a command or reserved. -/
theorem commandStep_eq (c : Byte) (s : State) : commandStep c s = hostWriteCmd c s := by
  unfold commandStep decodeCommand
  split
  · next i h =>
    split at h
    · next hc => cases h; subst hc; rfl
    · split at h
      · next hc => cases h; subst hc; rfl
      · split at h
        · next hc => cases h; subst hc; rfl
        · split at h
          · next hc => cases h; subst hc; rfl
          · cases h
  · rfl

/-- Everything a step can do, when it answers a next state. -/
theorem step_cases {s t : State} (h : step s = .next t) :
    (∃ s' i, (s' = s.freeLines ∨ ∃ rest, s' = s.withInputs rest) ∧ decodeMicro s'.fetchWord = .ok i ∧ exec i s' = .next t)
    ∨ (∃ rest vr de, t = (s.withInputs rest).driveLines vr de)
    ∨ (∃ rest c, hostWriteCmd c (s.withInputs rest) = .next t)
    ∨ (∃ rest i v, t = hostLfbWrite i v (s.withInputs rest))
    ∨ (∃ rest i, t = hostLfbRead i (s.withInputs rest))
    ∨ (∃ rest r, t = hostReadReg r (s.withInputs rest))
    ∨ (∃ rest, t = s.withInputs rest)
    ∨ (∃ rest, t = (s.withInputs rest).blockReset) := by
  have block : ∀ s', blockStep s' = .next t → ∃ i, decodeMicro s'.fetchWord = .ok i ∧ exec i s' = .next t := by
    intro s' hb
    unfold blockStep at hb
    split at hb
    · next i hi => exact ⟨i, hi, hb⟩
    · cases hb
  cases hin : s.env.inputs with
  | nil =>
    rw [step_of_nil hin] at h
    obtain ⟨i, hi, he⟩ := block _ h
    exact .inl ⟨_, i, .inl rfl, hi, he⟩
  | cons m rest =>
    rw [step_of_cons hin] at h
    cases m with
    | block =>
      obtain ⟨i, hi, he⟩ := block _ h
      exact .inl ⟨s.withInputs rest, i, .inr ⟨rest, rfl⟩, hi, he⟩
    | lines vr de => cases h; exact .inr (.inl ⟨rest, vr, de, rfl⟩)
    | statusByte b => cases h; exact .inr (.inl ⟨rest, _, _, rfl⟩)
    | reset => cases h; exact .inr (.inr (.inr (.inr (.inr (.inr (.inr ⟨rest, rfl⟩))))))
    | host a =>
      cases a with
      | writeCmd c =>
        refine .inr (.inr (.inl ⟨rest, c, ?_⟩))
        rw [← commandStep_eq]; exact h
      | lfbWrite i v => cases h; exact .inr (.inr (.inr (.inl ⟨rest, i, v, rfl⟩)))
      | lfbRead i => cases h; exact .inr (.inr (.inr (.inr (.inl ⟨rest, i, rfl⟩))))
      | readReg r => cases h; exact .inr (.inr (.inr (.inr (.inr (.inl ⟨rest, r, rfl⟩)))))
      | writeReg r v => cases h; exact .inr (.inr (.inr (.inr (.inr (.inr (.inl ⟨rest, rfl⟩))))))

/-! ## Runs -/

/-- One step, then the others. -/
theorem run_succ {n : Nat} {s t : State} (h : step s = .next t) : Sys2Proof.core.run (n + 1) s = Sys2Proof.core.run n t := by
  have h' : Sys2Proof.core.step s = .next t := h
  simp only [Host.Core.run, h']

/-- A run of `n + 1` steps that ends takes one step and then `n`. -/
theorem run_succ_inv {n : Nat} {s t : State} (h : Sys2Proof.core.run (n + 1) s = .next t) :
    ∃ u, step s = .next u ∧ Sys2Proof.core.run n u = .next t := by
  cases hs : Sys2Proof.core.step s with
  | next u => exact ⟨u, hs, by simpa only [Host.Core.run, hs] using h⟩
  | fault r => simp only [Host.Core.run, hs] at h; cases h
  | refused r => simp only [Host.Core.run, hs] at h; cases h

/-- A run of `m + n` steps is a run of `m` and then one of `n`. -/
theorem run_add {m n : Nat} {s t : State} (h : Sys2Proof.core.run m s = .next t) :
    Sys2Proof.core.run (m + n) s = Sys2Proof.core.run n t := by
  induction m generalizing s with
  | zero => cases h; simp
  | succ m ih =>
    obtain ⟨u, hu, hr⟩ := run_succ_inv h
    rw [show m + 1 + n = (m + n) + 1 by omega, run_succ hu]
    exact ih hr

/-- A loop: where every step `k < n` from a state of `P k` leads to one of `P (k + 1)`, `n` steps lead from `P 0` to `P n`. -/
theorem run_loop {P : Nat → State → Prop} {n : Nat} {s : State} (h0 : P 0 s)
    (hs : ∀ k u, k < n → P k u → ∃ t, step u = .next t ∧ P (k + 1) t) : ∃ t, Sys2Proof.core.run n s = .next t ∧ P n t := by
  induction n with
  | zero => exact ⟨s, rfl, h0⟩
  | succ n ih =>
    obtain ⟨u, hu, pu⟩ := ih fun k u hk => hs k u (Nat.lt_succ_of_lt hk)
    obtain ⟨t, ht, pt⟩ := hs n u (Nat.lt_succ_self n) pu
    exact ⟨t, by rw [run_add hu, run_succ ht]; rfl, pt⟩

/-- What every step keeps, every run keeps. -/
theorem run_invariant {P : State → Prop} (hs : ∀ s t, P s → step s = .next t → P t) {n : Nat} {s t : State} (h : P s)
    (hr : Sys2Proof.core.run n s = .next t) : P t := by
  induction n generalizing s with
  | zero => cases hr; exact h
  | succ n ih =>
    obtain ⟨u, hu, hr⟩ := run_succ_inv hr
    exact ih (hs s u h hu) hr

end Sys2Proof.Machine
end

