-- ==== Sys2Proof/Tests/Slice0.lean ====
section
/-! SUPPORT. The model's own tests: well-formedness refused, words of the spec's encoding decoded, single steps with the results of 95_test_vectors.md, and for every statement with hypotheses a state that meets them. -/

namespace Sys2Proof.Tests

open Sys2Proof Sys2Proof.Machine Sys2Proof.Claims

/-! ## Helpers -/

/-- The step answers a next state of which `p` holds. -/
def nextIs (r : Result) (p : State → Bool) : Bool :=
  match r with
  | .next t => p t
  | .fault _ => false
  | .refused _ => false

/-- The fault the step answers, if it does. -/
def faultOf (r : Result) : Option Fault :=
  match r with
  | .next _ => none
  | .fault f => some f
  | .refused _ => none

/-- The reset state with these moves to come. -/
def moves (l : List Input) : State := State.reset.withInputs l

/-- The reset state with the block at `a` and its step the next move. -/
def at_ (a : Byte) : State := { moves [.block] with upc := a }

/-- The reset state with the index counter at `n`. -/
def idxAt (n : BitVec 14) : State := { State.reset with idx := n }

/-- The reset state with the block at `a` and these lines. -/
def lines (a : Byte) (vr de : Bool) : State := (at_ a).driveLines vr de

/-- The reset state with a command running and the block's step the next move. -/
def busy : State := { moves [.block] with status := ⟨true, false, false, false⟩, upc := 0x08#8 }

/-- The reset state after an earlier refusal with this code. -/
def refusedOnce (code : Byte) : State := { State.reset with status := ⟨false, false, false, true⟩, fcode := code }

/-! ## Well-formed instructions -/

/-- 30_encoding.md R74: one ill-formed instruction for each check, each refused. -/
theorem test_ill_formed_refused :
    (Instr.smode 2#8).wellFormed = false ∧ (Instr.crtcw 4#8).wellFormed = false ∧ (Instr.bind 0#8).wellFormed = false
    ∧ (Instr.bind 3#8).wellFormed = false ∧ (Instr.report 3#8).wellFormed = false := by decide

/-- The legal arguments next to them. -/
theorem test_well_formed_accepted :
    (Instr.smode 1#8).wellFormed = true ∧ (Instr.crtcw 3#8).wellFormed = true ∧ (Instr.bind 1#8).wellFormed = true
    ∧ (Instr.bind 2#8).wellFormed = true ∧ (Instr.report 2#8).wellFormed = true ∧ (Instr.plnext 0xFF#8).wellFormed = true := by decide

/-! ## Decoding: words written out from the tables of 30_encoding.md R70 and R73, and 95_test_vectors.md 2.1 -/

theorem test_decode_commands :
    decode (.command 0b00000001#8) = .ok .config ∧ decode (.command 0b00000010#8) = .ok .present
    ∧ decode (.command 0b00000011#8) = .ok .waitv ∧ decode (.command 0b00000100#8) = .ok .restore := by decide

theorem test_decode_host_interface :
    decodeMicro 0b0000000000000000#16 = .ok .idle ∧ decodeMicro 0b0000000100000000#16 = .ok .done := by decide

theorem test_decode_sync :
    decodeMicro 0b0000001000000001#16 = .ok (.call 0x01#8) ∧ decodeMicro 0b0000001100000000#16 = .ok .ret
    ∧ decodeMicro 0b0001000000000000#16 = .ok .wvlo ∧ decodeMicro 0b0001000100000000#16 = .ok .wvhi
    ∧ decodeMicro 0b0001001000000000#16 = .ok .wde := by decide

theorem test_decode_cga :
    decodeMicro 0b0010000000000000#16 = .ok .pack ∧ decodeMicro 0b0010000100000000#16 = .ok .copy := by decide

theorem test_decode_ega :
    decodeMicro 0b0011000000000000#16 = .ok .plinit ∧ decodeMicro 0b0011000100000000#16 = .ok .psel
    ∧ decodeMicro 0b0011001000000000#16 = .ok .slice ∧ decodeMicro 0b0000011000010001#16 = .ok (.plnext 0x11#8)
    ∧ decodeMicro 0b0011001100000000#16 = .ok .swap ∧ decodeMicro 0b0011010000000000#16 = .ok .saddr
    ∧ decodeMicro 0b0011010100000000#16 = .ok .sahi ∧ decodeMicro 0b0011011000000000#16 = .ok .salo := by decide

theorem test_decode_detector :
    decodeMicro 0b0100000000000001#16 = .ok (.smode 1#8) ∧ decodeMicro 0b0100000100000000#16 = .ok .qsw
    ∧ decodeMicro 0b0000010000110000#16 = .ok (.bega 0x30#8) ∧ decodeMicro 0b0100001000000000#16 = .ok .qds
    ∧ decodeMicro 0b0000010100111000#16 = .ok (.bmono 0x38#8) ∧ decodeMicro 0b0100001100000011#16 = .ok (.crtcw 3#8)
    ∧ decodeMicro 0b0100010000000000#16 = .ok .stamp ∧ decodeMicro 0b0100010100000000#16 = .ok .lfbclr
    ∧ decodeMicro 0b0100011000000010#16 = .ok (.bind 2#8) ∧ decodeMicro 0b0100011100000000#16 = .ok (.report 0#8) := by decide

/-- 95_test_vectors.md 2.1, the reserved rows. -/
theorem test_decode_reserved :
    decodeCommand 0x00#8 = .error (.reservedCommand 0x00#8) ∧ decodeCommand 0x05#8 = .error (.reservedCommand 0x05#8)
    ∧ decodeMicro 0x3201#16 = .error (.noSuchMicroOp 0x3201#16) ∧ decodeMicro 0x4002#16 = .error (.argNotLegal 0x4002#16)
    ∧ decodeMicro 0x4304#16 = .error (.argNotLegal 0x4304#16) ∧ decodeMicro 0x4600#16 = .error (.argNotLegal 0x4600#16)
    ∧ decodeMicro 0x4603#16 = .error (.argNotLegal 0x4603#16) ∧ decodeMicro 0x4703#16 = .error (.argNotLegal 0x4703#16) := by decide

theorem test_decode_no_such_op :
    decodeMicro 0x0700#16 = .error (.noSuchMicroOp 0x0700#16) ∧ decodeMicro 0x1300#16 = .error (.noSuchMicroOp 0x1300#16)
    ∧ decodeMicro 0x5000#16 = .error (.noSuchMicroOp 0x5000#16) ∧ decodeMicro 0xFFFF#16 = .error (.noSuchMicroOp 0xFFFF#16) := by decide

theorem test_table_word :
    decodeTableWord 8 0x03 = some .waitv ∧ decodeTableWord 16 0x0201 = some (.call 0x01#8) ∧ decodeTableWord 16 0x4002 = none
    ∧ decodeTableWord 8 0x05 = none := by decide

/-! ## Sync (95_test_vectors.md 2.2) -/

theorem test_wvlo_leaves : nextIs (step (lines 0x01#8 false true)) (fun t => t.upc == 0x02#8 && t.history == [.statusRead false true]) = true := by decide
theorem test_wvlo_stays : nextIs (step (lines 0x01#8 true false)) (fun t => t.upc == 0x01#8 && t.history == [.statusRead true false]) = true := by decide
theorem test_wvhi_leaves : nextIs (step (lines 0x02#8 true false)) (fun t => t.upc == 0x03#8) = true := by decide
theorem test_wvhi_stays : nextIs (step (lines 0x02#8 false true)) (fun t => t.upc == 0x02#8) = true := by decide
theorem test_wde_leaves_in_retrace : nextIs (step (lines 0x16#8 true false)) (fun t => t.upc == 0x17#8) = true := by decide
theorem test_wde_stays : nextIs (step (lines 0x16#8 false true)) (fun t => t.upc == 0x16#8) = true := by decide
theorem test_call : nextIs (step (at_ 0x19#8)) (fun t => t.ret == 0x1A#8 && t.upc == 0x01#8) = true := by decide
theorem test_ret : nextIs (step { at_ 0x03#8 with ret := 0x2A#8 }) (fun t => t.upc == 0x2A#8 && t.ret == 0x2A#8) = true := by decide
theorem test_waitv_accepted : nextIs (exec .waitv State.reset) (fun t => t.upc == 0x04#8 && t.status.busy && t.history == [.cmd 0x03#8]) = true := by decide

/-! ## CGA presenter (95_test_vectors.md 2.3) -/

theorem test_pack_bytes :
    packByte 15#8 0#8 = 0x0F#8 ∧ packByte 0#8 15#8 = 0xF0#8 ∧ packByte 1#8 2#8 = 0x21#8 ∧ packByte 8#8 7#8 = 0x78#8 := by decide
theorem test_pack : nextIs (step { at_ 0x08#8 with lfb := [(0, 0x03#8), (1, 0x0A#8)] })
    (fun t => t.stage == [(0, 0xA3#8)] && t.idx == 1#14 && t.upc == 0x08#8 && t.history == []) = true := by decide
theorem test_pack_last : nextIs (step { at_ 0x08#8 with idx := 7999#14, lfb := [(15998, 0x0C#8), (15999, 0x05#8)] })
    (fun t => t.stage == [(7999, 0x5C#8)] && t.idx == 0#14 && t.upc == 0x09#8) = true := by decide
theorem test_copy : nextIs (step { at_ 0x0A#8 with stage := [(0, 0xA3#8)] })
    (fun t => t.adapter.cgahw == [(1, 0xA3#8)] && t.history == [.hwWriteCga 1 0xA3#8] && t.idx == 1#14) = true := by decide
theorem test_copy_last : nextIs (step { at_ 0x0A#8 with idx := 7999#14, stage := [(7999, 0x5C#8)] })
    (fun t => t.adapter.cgahw == [(15999, 0x5C#8)] && t.idx == 0#14 && t.upc == 0x0B#8) = true := by decide

/-! ## EGA presenter (95_test_vectors.md 2.4) -/

theorem test_slice_bytes :
    sliceByte 1#8 2#8 4#8 8#8 0 = 0xC0#8 ∧ sliceByte 1#8 2#8 4#8 8#8 1 = 0x30#8 ∧ sliceByte 8#8 4#8 2#8 1#8 2 = 0x30#8
    ∧ sliceByte 9#8 6#8 9#8 6#8 3 = 0xCC#8 ∧ sliceByte 0x1F#8 0x10#8 0xF5#8 0x0A#8 1 = 0xC3#8 := by decide
theorem test_slice_sources :
    sliceSource 39 0 = 156 ∧ sliceSource 40 0 = 0 ∧ sliceSource 41 3 = 7 ∧ sliceSource 80 0 = 160 ∧ sliceSource 7959 3 = 15999
    ∧ sliceSource 7999 0 = 15996 := by decide

/-- The adapter with plane `p` selected. -/
def planeIs (p : Fin 4) : Adapter := { Adapter.initial with plane := some p }

/-- R122's example. -/
def sliceState : State :=
  { at_ 0x12#8 with
    idx := 41#14, pl := 1#3, bind := 2#2, status := ⟨true, true, false, false⟩, adapter := planeIs 1
    lfb := [(4, 0x0F#8), (5, 0x00#8), (6, 0x05#8), (7, 0x0A#8)] }

theorem test_slice : nextIs (step sliceState)
    (fun t => t.adapter.egahw.p1 == [(0x2029, 0xC3#8)] && t.history == [.hwWriteEga 1 0x2029 0xC3#8] && t.idx == 42#14) = true := by decide
/-- The last byte of a plane; and PL = 4, where SLICE runs and the byte is open (log 21). -/
theorem test_slice_last : nextIs (step { sliceState with idx := 7999#14, lfb := [(15996, 0#8), (15997, 0#8), (15998, 0#8), (15999, 2#8)] })
    (fun t => t.adapter.egahw.p1 == [(0x3F3F, 0x03#8)] && t.idx == 0#14 && t.upc == 0x13#8) = true
    ∧ nextIs (step { sliceState with pl := 4#3 })
    (fun t => t.adapter.egahw.p1.map (·.1) == [0x2029] && t.idx == 42#14 && t.pl == 4#3) = true := by decide
theorem test_plinit : nextIs (step { at_ 0x10#8 with pl := 4#3 }) (fun t => t.pl == 0#3 && t.upc == 0x11#8) = true := by decide
theorem test_psel : nextIs (step { at_ 0x11#8 with pl := 2#3 })
    (fun t => t.adapter.plane == some 2 && t.history == [.planeSelect 2] && t.upc == 0x12#8) = true := by decide
/-- The plane counter an EGA present leaves behind: PSEL runs, the plane is open (log 21). -/
theorem test_psel_after_present : nextIs (step { at_ 0x11#8 with pl := 4#3 })
    (fun t => t.adapter.plane.isSome && t.pl == 4#3 && t.upc == 0x12#8) = true := by decide
theorem test_plnext_loops : nextIs (step { at_ 0x13#8 with pl := 2#3 }) (fun t => t.pl == 3#3 && t.upc == 0x11#8) = true := by decide
theorem test_plnext_ends : nextIs (step { at_ 0x13#8 with pl := 3#3 }) (fun t => t.pl == 4#3 && t.upc == 0x14#8) = true := by decide
theorem test_swap : nextIs (step (at_ 0x14#8)) (fun t => t.pageVis == 0x2000#16 && t.pageAct == 0x0000#16 && t.upc == 0x15#8) = true := by decide
theorem test_saddr : nextIs (step { at_ 0x15#8 with pageVis := 0x2000#16 }) (fun t => t.sa == 0x2000#16 && t.upc == 0x16#8) = true := by decide
theorem test_sahi : nextIs (step { at_ 0x17#8 with sa := 0x2000#16 })
    (fun t => t.history == [.crtcWrite 0x0C#8 0x20#8] && t.adapter.crtc == [(0x0C, 0x20#8)]) = true := by decide
theorem test_salo : nextIs (step { at_ 0x18#8 with sa := 0x2001#16 })
    (fun t => t.history == [.crtcWrite 0x0D#8 0x01#8] && t.adapter.crtc == [(0x0D, 0x01#8)]) = true := by decide

/-! ## Detector (95_test_vectors.md 2.5) -/

theorem test_config_accepted : nextIs (exec .config State.reset) (fun t => t.upc == 0x20#8 && t.status.busy && t.history == [.cmd 0x01#8]) = true := by decide
theorem test_config_refused : nextIs (exec .config { State.reset with status := ⟨false, true, false, false⟩ })
    (fun t => t.fcode == 3#8 && t.status.fault && t.upc == 0x00#8 && t.history == [.cmd 0x01#8, .refused .reconfigure]) = true := by decide
theorem test_smode_text : nextIs (step { at_ 0x20#8 with adapter := planeIs 3 })
    (fun t => t.history == [.setMode 0x03#8] && t.adapter.mode == 0x03#8 && t.adapter.plane == none) = true := by decide
theorem test_smode_ega : nextIs (step (at_ 0x30#8)) (fun t => t.history == [.setMode 0x0D#8] && t.adapter.saLatched == 0x0000#16) = true := by decide
theorem test_qsw : nextIs (step { at_ 0x21#8 with env := { Env.initial with inputs := [.block], swAnswers := [0x09#8] } })
    (fun t => t.sw == 0x09#8 && t.history == [.querySwitches 0x09#8] && t.env.swAnswers == []) = true := by decide
theorem test_qds : nextIs (step { at_ 0x23#8 with env := { Env.initial with inputs := [.block], dsAnswers := [0x03#8, 0x07#8] } })
    (fun t => t.ds == 0x03#8 && t.history == [.querySettings 0x03#8] && t.env.dsAnswers == [0x07#8]) = true := by decide
theorem test_bega : nextIs (step { at_ 0x22#8 with sw := 0x09#8 }) (fun t => t.upc == 0x30#8) = true
    ∧ nextIs (step { at_ 0x22#8 with sw := 0x07#8 }) (fun t => t.upc == 0x23#8) = true := by decide
theorem test_bmono : nextIs (step { at_ 0x24#8 with ds := 0x07#8 }) (fun t => t.upc == 0x38#8) = true
    ∧ nextIs (step { at_ 0x24#8 with ds := 0x87#8 }) (fun t => t.upc == 0x25#8) = true := by decide
theorem test_classify :
    classify [0x09#8] 0x09#8 0x07#8 = 2#8 ∧ classify [0x09#8] 0x07#8 0x03#8 = 1#8 ∧ classify [0x09#8] 0x07#8 0x07#8 = 0#8
    ∧ classify [0x09#8] 0x00#8 0x07#8 = 0#8 ∧ classify [0x09#8] 0xFF#8 0xFF#8 = 1#8 ∧ classify [0x09#8] 0x07#8 0x87#8 = 1#8 := by decide
theorem test_crtcw : nextIs (step (at_ 0x26#8)) (fun t => t.history == [.crtcWrite 0x06#8 0x64#8] && t.upc == 0x27#8) = true
    ∧ nextIs (step (at_ 0x28#8)) (fun t => t.history == [.crtcWrite 0x09#8 0x01#8]) = true := by decide
theorem test_stamp : nextIs (step (at_ 0x2A#8)) (fun t => t.adapter.cgahw == [(0, 0xDE#8)] && t.idx == 1#14 && t.upc == 0x2A#8) = true := by decide
theorem test_stamp_last : nextIs (step { at_ 0x2A#8 with idx := 15999#14 })
    (fun t => t.adapter.cgahw == [(15999, 0x00#8)] && t.idx == 0#14 && t.upc == 0x2B#8) = true := by decide
theorem test_lfbclr : nextIs (step { at_ 0x2B#8 with idx := 15999#14, lfb := [(15999, 0xFF#8)] })
    (fun t => t.lfb == [(15999, 0x00#8)] && t.idx == 0#14 && t.upc == 0x2C#8) = true := by decide
theorem test_bind : nextIs (step (at_ 0x2C#8)) (fun t => t.bind == 1#2 && hostRegValue .cls t == 1#16) = true
    ∧ nextIs (step (at_ 0x31#8)) (fun t => t.bind == 2#2 && hostRegValue .cls t == 2#16) = true := by decide
theorem test_report_unsupported : nextIs (step (at_ 0x38#8)) (fun t => t.status == ⟨false, true, true, false⟩ && t.history == [.report 0#8]) = true := by decide
theorem test_report_ega : nextIs (step (at_ 0x33#8)) (fun t => t.status == ⟨false, true, false, false⟩) = true := by decide

/-! ## Host interface and refusals (95_test_vectors.md 2.6), reset and the latch (2.7) -/

theorem test_idle_dispatches : nextIs (exec .idle { State.reset with cmd := some 0x02#8, bind := 2#2 })
    (fun t => t.upc == 0x10#8 && t.status.busy && t.history == [.cmd 0x02#8] && t.cmd == none) = true := by decide
theorem test_idle_refuses : nextIs (exec .idle { State.reset with cmd := some 0x00#8 })
    (fun t => t.fcode == 1#8 && t.upc == 0x00#8 && t.history == [.cmd 0x00#8, .refused .illegalCommand]) = true := by decide
theorem test_done : nextIs (step { busy with upc := 0x0B#8 }) (fun t => t.upc == 0x00#8 && !t.status.busy && t.history == [.done]) = true := by decide
theorem test_present_unbound : nextIs (exec .present State.reset)
    (fun t => t.history == [.cmd 0x02#8, .refused .unboundPresent] && t.fcode == 2#8 && t.status.word == 0x08#8 && t.upc == 0x00#8) = true := by decide
theorem test_present_cga : nextIs (exec .present { State.reset with bind := 1#2 }) (fun t => t.upc == 0x08#8 && t.status.busy) = true := by decide
theorem test_restore : nextIs (exec .restore State.reset) (fun t => t.upc == 0x3C#8 && t.history == [.cmd 0x04#8]) = true := by decide
theorem test_busy_command : nextIs (step (busy.withInputs [.host (.writeCmd 0x01#8)]))
    (fun t => t.history == [.refused .busyAccess] && t.fcode == 4#8 && t.upc == 0x08#8 && t.status.busy) = true := by decide
theorem test_busy_lfb : nextIs (step (busy.withInputs [.host (.lfbWrite 0 1#8)])) (fun t => t.lfb == [] && t.fcode == 4#8) = true := by decide
theorem test_lfb_bound : nextIs (step (moves [.host (.lfbWrite 16000 1#8)])) (fun t => t.lfb == [] && t.fcode == 5#8) = true
    ∧ nextIs (step (moves [.host (.lfbWrite 15999 0xFF#8)])) (fun t => t.lfb == [(15999, 0xFF#8)] && t.history == []) = true := by decide
theorem test_lfb_read : nextIs (step { moves [.host (.lfbRead 161)] with lfb := [(161, 0x0C#8)] }) (fun t => t.env.hostReply == some 0x0C#16) = true := by decide
theorem test_first_reason_kept : nextIs (step ((refusedOnce 2#8).withInputs [.host (.writeCmd 0x7F#8)]))
    (fun t => t.fcode == 2#8 && t.history == [.cmd 0x7F#8, .refused .illegalCommand]) = true := by decide
theorem test_read_status : nextIs (step { moves [.host (.readReg .status)] with status := ⟨false, true, true, true⟩ })
    (fun t => t.env.hostReply == some 0x0E#16) = true := by decide
theorem test_read_pages : nextIs (step (moves [.host (.readReg .pageAct)])) (fun t => t.env.hostReply == some 0x2000#16) = true := by decide
theorem test_write_reg_ignored : nextIs (step (moves [.host (.writeReg .pageVis 0x1234#16)])) (fun t => t.pageVis == 0x0000#16) = true := by decide
theorem test_reset : nextIs (step ({ busy with idx := 5#14, bind := 2#2, pageVis := 0x2000#16, pageAct := 0#16, events := [.done] }.withInputs [.reset]))
    (fun t => t.upc == 0#8 && t.idx == 0#14 && t.bind == 0#2 && t.pageVis == 0#16 && t.pageAct == 0x2000#16 && t.status.word == 0#8 && t.history == []) = true := by decide
theorem test_mixed_latch : nextIs (step { moves [.lines true false] with adapter := { Adapter.initial with crtc := [(0x0C, 0x20#8), (0x0D, 0x10#8)] } })
    (fun t => t.adapter.saLatched == 0x2010#16) = true := by decide
theorem test_no_latch_on_fall : nextIs (step { moves [.lines false false] with
      adapter := { Adapter.initial with vr := true, crtc := [(0x0C, 0x20#8), (0x0D, 0x10#8)] } })
    (fun t => t.adapter.saLatched == 0x0000#16) = true := by decide
/-- Bit 3 of the default status byte is retrace, bit 0 is 0 while scanning (00_scope.md R5). -/
theorem test_status_byte : nextIs (step (moves [.statusByte 0x09#8])) (fun t => t.adapter.vr && !t.adapter.de) = true
    ∧ nextIs (step (moves [.statusByte 0x00#8])) (fun t => !t.adapter.vr && t.adapter.de) = true := by decide
/-- 20_memory.md R46. -/
theorem test_bus_view : busView Config.Params.default (.planeSelect 2) = [.portWrite 0x3C4 0x02#8, .portWrite 0x3C5 0x04#8]
    ∧ busView Config.Params.default (.hwWriteCga 1 0xA3#8) = [.memWrite 0xB8001 0xA3#8] := by decide
theorem test_reserved_word_sticks : faultOf (step (at_ 0x06#8)) = some (.reservedMicroWord 0xFFFF#16) := by decide

/-! ## Witnesses: for every statement with hypotheses, a state and operands that meet them together, clause by clause -/

theorem witness_DecodeAfterEncode : ∃ i : Instr, i.wellFormed = true ∧ i = .crtcw 3#8 := ⟨_, by decide, rfl⟩

theorem witness_EncodeAfterDecode : ∃ (c : Code) (i : Instr), decode c = .ok i := ⟨.micro 0x0611#16, .plnext 0x11#8, by decide⟩

theorem witness_RejectedIffReserved : Reserved 0x32 0x01 ∧ Reserved 0x43 4 ∧ ¬ Reserved 0x43 3 ∧ Reserved 0x46 0 ∧ ¬ Reserved 0x46 2 ∧ Reserved 0x46 3
    ∧ Reserved 0x40 2 ∧ ¬ Reserved 0x40 1 ∧ Reserved 0x47 3 ∧ ¬ Reserved 0x47 2 ∧ Reserved 0x13 0 := by
  simp [Reserved, plainOps]

/-- Both values of FAULT. -/
theorem witness_ReservedCommandIsIllegal : ∃ (c : Byte) (s u : State), c ∉ [0x01#8, 0x02#8, 0x03#8, 0x04#8]
    ∧ (s.status.busy = false ∧ s.status.fault = false) ∧ (u.status.busy = false ∧ u.status.fault = true) :=
  ⟨0x05#8, State.reset, refusedOnce 2#8, by decide, by decide, by decide⟩

theorem witness_StepRunsDecodedInstruction :
    (∃ (s : State) (i : Instr), s.env.inputs = [] ∧ decodeMicro s.fetchWord = .ok i)
    ∧ (∃ (s : State) (i : Instr) (rest : List Input), s.env.inputs = .block :: rest ∧ decodeMicro s.fetchWord = .ok i)
    ∧ (∃ (s : State) (i : Instr) (c : Byte) (rest : List Input), s.env.inputs = .host (.writeCmd c) :: rest ∧ decodeCommand c = .ok i) :=
  ⟨⟨{ State.reset with upc := 0x3D#8 }, .done, rfl, by decide⟩, ⟨(at_ 0x13#8).withInputs [.block, .reset], .plnext 0x11#8, [.reset], rfl, by decide⟩,
   ⟨busy.withInputs [.host (.writeCmd 0x04#8)], .restore, 0x04#8, [], rfl, by decide⟩⟩

theorem witness_PlacedInstructionRunsNext : decodeTableWord 8 0x01 = some .config ∧ decodeTableWord 16 0x4702 = some (.report 2#8) := by decide

/-- The last listed address, the first beyond, and a machine whose ROM is the spec's. -/
theorem witness_RomHoldsListedWords : (0x3D, 0x0100) ∈ listedWords ∧ (0x3E#8).toNat ∉ listedWords.map (·.1) ∧ State.reset.romPatch = [] := by decide

/-- Each line at each level. -/
theorem witness_PollsStayOnTheirLine : ∃ s u : State, (s.adapter.vr = true ∧ s.adapter.de = false) ∧ (u.adapter.vr = false ∧ u.adapter.de = true) :=
  ⟨lines 0x01#8 true false, lines 0x01#8 false true, by decide, by decide⟩

theorem witness_WaitVsyncContract : ∃ (s : State) (inRetrace noRetrace : List Bool) (d0 d1 : Bool) (rest : List Input),
    s.romPatch = [] ∧ s.upc = 0x01#8 ∧ s.env.inputs = polls (waitAnswers inRetrace d0 noRetrace d1) ++ .block :: rest :=
  ⟨(at_ 0x01#8).withInputs (polls (waitAnswers [false] false [true] false) ++ .block :: []), [false], [true], false, false, [], rfl, rfl, rfl⟩

theorem witness_WaitvRunsOneWait : ∃ (s : State) (inRetrace noRetrace : List Bool) (d0 d1 : Bool) (rest : List Input),
    s.romPatch = [] ∧ s.upc = 0x00#8 ∧ s.status.busy = false ∧ s.cmd = none
    ∧ s.env.inputs = .host (.writeCmd 0x03#8) :: .block :: polls (waitAnswers inRetrace d0 noRetrace d1) ++ .block :: .block :: rest :=
  ⟨moves (.host (.writeCmd 0x03#8) :: .block :: polls (waitAnswers [] false [] true) ++ .block :: .block :: []), [], [], false, true, [], rfl, rfl, rfl, rfl, rfl⟩

/-- The last pair with its two pixels at 15, and the pair before it. -/
theorem witness_PackStoresPackedPair : ∃ s u : State,
    (s.idx.toNat < 8000 ∧ s.idx.toNat = 7999 ∧ (s.lfbAt (2 * s.idx.toNat)).toNat ≤ 15 ∧ (s.lfbAt (2 * s.idx.toNat + 1)).toNat ≤ 15)
    ∧ (u.idx.toNat < 8000 ∧ u.idx.toNat ≠ 7999) :=
  ⟨{ idxAt 7999#14 with lfb := [(15998, 15#8), (15999, 15#8)] }, idxAt 7998#14, by decide, by decide⟩

theorem witness_CopyWritesOddOffset : ∃ (s u : State) (v : Byte),
    (s.idx.toNat < 8000 ∧ s.stageAt s.idx.toNat = v ∧ s.stage.read? s.idx.toNat = some v ∧ s.idx.toNat = 7999) ∧ (u.idx.toNat < 8000 ∧ u.idx.toNat ≠ 7999) :=
  ⟨{ idxAt 7999#14 with stage := [(7999, 0x5C#8)] }, idxAt 0#14, 0x5C#8, by decide, by decide⟩

theorem witness_CgaPackRoundTrip : ∃ p0 p1 : Byte, p0.toNat ≤ 15 ∧ p1.toNat ≤ 15 ∧ p0 ≠ p1 := ⟨15#8, 0#8, by decide⟩

/-- A list of cells of one value reads as that value at every cell. -/
theorem read_cells (v : Byte) (l : List Nat) (i : Nat) (h : i ∈ l) : Memory.read? (l.map (·, v)) i = some v := by
  induction l with
  | nil => cases h
  | cons a l ih =>
    simp only [List.map_cons, Memory.read?]
    split
    · rfl
    · exact ih ((List.mem_cons.mp h).resolve_left ‹_›)

/-- A frame with every pixel 15. -/
def whiteFrame : Memory := (List.range 16000).map (·, 15#8)

/-- `s` with the frame `m`. -/
def withFrame (m : Memory) (s : State) : State := { s with lfb := m }

theorem withFrame_pixels (m : Memory) (s : State) (h : ∀ i, i < 16000 → m.read? i = some 15#8) : (withFrame m s).lfbPixels := by
  intro i hi
  simp [State.lfbAt, withFrame, h i hi]

/-- `s` with that frame. -/
def white (s : State) : State := withFrame whiteFrame s

theorem white_pixels (s : State) : (white s).lfbPixels :=
  withFrame_pixels _ s fun i hi => read_cells 15#8 (List.range 16000) i (List.mem_range.mpr hi)

theorem witness_PackPhaseFillsStage : ∃ (s : State) (rest : List Input),
    s.romPatch = [] ∧ s.upc = 0x08#8 ∧ s.idx.toNat = 0 ∧ s.lfbPixels ∧ s.env.inputs = blocks 8000 ++ rest :=
  ⟨white ((at_ 0x08#8).withInputs (blocks 8000 ++ [])), [], rfl, rfl, rfl, white_pixels _, rfl⟩

theorem witness_PresentCgaShowsFrame : ∃ (s : State) (inRetrace noRetrace : List Bool) (d0 d1 : Bool) (rest : List Input),
    s.romPatch = [] ∧ s.upc = 0x00#8 ∧ s.idx.toNat = 0 ∧ s.status.busy = false ∧ s.bind = 1#2 ∧ s.lfbPixels
    ∧ s.env.inputs = .host (.writeCmd 0x02#8) :: blocks 8001 ++ polls (waitAnswers inRetrace d0 noRetrace d1) ++ blocks 8002 ++ rest :=
  ⟨white { moves (.host (.writeCmd 0x02#8) :: blocks 8001 ++ polls (waitAnswers [] true [false] false) ++ blocks 8002 ++ []) with bind := 1#2 },
    [], [false], true, false, [], rfl, rfl, rfl, rfl, rfl, white_pixels _, rfl⟩

theorem witness_PselSelectsCountedPlane : ∃ (s : State) (p : Fin 4), s.pl.toNat = p.val := ⟨{ State.reset with pl := 3#3 }, 3, by decide⟩

theorem witness_SliceWritesPlaneByte : ∃ (s u : State) (q : Fin 4),
    (s.idx.toNat < 8000 ∧ s.pl.toNat = q.val ∧ s.adapter.plane = some q ∧ s.pageAct.toNat + s.idx.toNat < s.cfg.egaPlaneSize ∧ s.idx.toNat = 7999)
    ∧ (u.idx.toNat < 8000 ∧ u.pl.toNat = q.val ∧ u.adapter.plane = some q ∧ u.pageAct.toNat + u.idx.toNat < u.cfg.egaPlaneSize ∧ u.idx.toNat ≠ 7999) :=
  ⟨{ sliceState with idx := 7999#14 }, sliceState, 1, by decide, by decide⟩

theorem witness_EgaSliceRoundTrip : ∃ p k : Nat, p < 4 ∧ k < 4 := ⟨3, 3, by decide⟩

theorem witness_SlicePhaseWritesDoubledRows : ∃ (s : State) (p : Fin 4) (rest : List Input), s.romPatch = [] ∧ s.upc = 0x12#8 ∧ s.idx.toNat = 0
    ∧ s.pl.toNat = p.val ∧ s.adapter.plane = some p ∧ s.pageAct.toNat + 8000 ≤ s.cfg.egaPlaneSize ∧ s.env.inputs = blocks 8000 ++ rest :=
  ⟨{ sliceState.withInputs (blocks 8000 ++ []) with idx := 0#14 }, 1, [], rfl, rfl, rfl, rfl, rfl, by decide, rfl⟩

/-- Clauses on a byte number at the ends of its ranges. -/
theorem witness_SlicePhase_ranges : ∃ (page : Word) (y g d a : Nat), y < 100 ∧ g < 40 ∧ d < 2 ∧ y = 99 ∧ g = 39 ∧ d = 1 ∧ ¬ inRegion page a ∧ a = page.toNat + 8000 :=
  ⟨0x2000#16, 99, 39, 1, 0x2000 + 8000, by decide, by decide, by decide, rfl, rfl, rfl, by unfold inRegion; decide, rfl⟩

theorem witness_PresentEgaShowsFrame : ∃ (s : State) (midScan inRetrace noRetrace : List Bool) (v0 d0 d1 : Bool) (rest : List Input),
    s.romPatch = [] ∧ s.upc = 0x00#8 ∧ s.idx.toNat = 0 ∧ s.status.busy = false ∧ s.bind = 2#2
    ∧ s.pageAct.toNat + 8000 ≤ s.cfg.egaPlaneSize ∧ s.cfg.crtcIdxSah ≠ s.cfg.crtcIdxSal
    ∧ s.env.inputs = .host (.writeCmd 0x02#8) :: blocks 32011 ++ polls (midScan.map (·, true) ++ [(v0, false)]) ++ blocks 3
      ++ polls (waitAnswers inRetrace d0 noRetrace d1) ++ blocks 2 ++ rest :=
  ⟨{ moves (.host (.writeCmd 0x02#8) :: blocks 32011 ++ polls ([false].map (·, true) ++ [(false, false)]) ++ blocks 3
      ++ polls (waitAnswers [false] true [] false) ++ blocks 2 ++ []) with bind := 2#2 },
    [false], [false], [], false, true, false, [], rfl, rfl, rfl, rfl, rfl, by decide, by decide, rfl⟩

theorem no_glyphs : (at_ 0x2A#8).glyphsKept := fun _ _ h => nomatch h

/-- R122's example is a state of the invariant: an EGA present at its slicing. -/
theorem sliceState_inv : sliceState.Inv where
  params := by decide
  rom := rfl
  mem := by decide
  pages := Or.inl ⟨rfl, rfl⟩
  glyphs := fun _ _ h => nomatch h
  noCmd := rfl
  busy := by decide
  fault := by decide
  phase := by decide

theorem witness_SliceLeavesVisibleRegion : ∃ s : State, s.Inv ∧ s.upc = 0x12#8 ∧ ∃ a, inRegion s.pageVis a ∧ a = s.pageVis.toNat + 7999 :=
  ⟨sliceState, sliceState_inv, rfl, 7999, by unfold inRegion; decide, rfl⟩

theorem witness_PlnextLoopsBelowFour : ∃ s u : State, (s.pl.toNat ≤ 3 ∧ s.pl.toNat = 3) ∧ (u.pl.toNat ≤ 3 ∧ u.pl.toNat < 3) :=
  ⟨{ State.reset with pl := 3#3 }, { State.reset with pl := 2#3 }, by decide, by decide⟩

theorem witness_RiseLatchesStartAddress : ∃ (s t u : State) (lo : Byte), s.cfg.crtcIdxSah ≠ s.cfg.crtcIdxSal ∧ s.adapter.vr = false
    ∧ s.adapter.crtc.read? s.cfg.crtcIdxSal.toNat = some lo ∧ exec .sahi s = .next t ∧ exec .salo t = .next u :=
  ⟨{ at_ 0x17#8 with sa := 0x2000#16, adapter := { Adapter.initial with crtc := [(0x0D, 0x10#8)] } }, _, _, 0x10#8, by decide, rfl, by decide, rfl, rfl⟩

/-- A listed rise of VR, and a mode request. -/
theorem witness_LatchChangesOnlyAtRise :
    (∃ s t : State, step s = .next t ∧ t.adapter.saLatched ≠ s.adapter.saLatched ∧ t.adapter.vr = true ∧ s.env.inputs ≠ [])
    ∧ (∃ s t : State, step s = .next t ∧ t.adapter.saLatched ≠ s.adapter.saLatched ∧ t.adapter.vr = false) :=
  ⟨⟨{ moves [.lines true false] with adapter := { Adapter.initial with crtc := [(0x0C, 0x20#8), (0x0D, 0x10#8)] } }, _, rfl, by decide, by decide, by decide⟩,
   ⟨{ at_ 0x30#8 with adapter := { Adapter.initial with saLatched := 1#16 } }, _, rfl, by decide, by decide⟩⟩

theorem witness_SmodeRequestsMode : ∃ a b : Byte, (a.toNat ≤ 1 ∧ a = 0#8) ∧ (b.toNat ≤ 1 ∧ b = 1#8) := ⟨0#8, 1#8, by decide⟩

theorem witness_EgaModeShowsPageA : ∃ s : State, s.cfg.valid = true := ⟨State.reset, by decide⟩

theorem witness_QueriesTakeAnswers : ∃ (s : State) (c d : Byte) (cs ds : List Byte), s.env.swAnswers = c :: cs ∧ s.env.dsAnswers = d :: ds :=
  ⟨{ State.reset with env := { Env.initial with swAnswers := [0x09#8], dsAnswers := [0x03#8] } }, 0x09#8, 0x03#8, [], [], rfl, rfl⟩

theorem witness_DetectorBranches : ∃ s u : State, (s.sw ∈ s.cfg.egaCodes ∧ s.ds = 0x07#8) ∧ (u.sw ∉ u.cfg.egaCodes ∧ u.ds ≠ 0x07#8) :=
  ⟨{ State.reset with sw := 0x09#8, ds := 0x07#8 }, { State.reset with sw := 0x07#8, ds := 0x87#8 }, by decide, by decide⟩

/-- The last odd offset, and the last even one. -/
theorem witness_StampAlternatesGlyphAndBlack : ∃ s u : State,
    (s.idx.toNat < 16000 ∧ s.idx.toNat % 2 = 1 ∧ s.idx.toNat = 15999) ∧ (u.idx.toNat < 16000 ∧ u.idx.toNat % 2 = 0 ∧ u.idx.toNat ≠ 15999) :=
  ⟨idxAt 15999#14, idxAt 15998#14, by decide, by decide⟩

theorem witness_LfbclrZeroesCell : ∃ s u : State, (s.idx.toNat < 16000 ∧ s.idx.toNat = 15999) ∧ (u.idx.toNat < 16000 ∧ u.idx.toNat ≠ 15999) :=
  ⟨idxAt 15999#14, idxAt 15998#14, by decide, by decide⟩

theorem witness_BindBindsPresenter : ∃ a b : Byte, (a = 1#8 ∨ a = 2#8) ∧ (b = 1#8 ∨ b = 2#8) ∧ a ≠ b := ⟨1#8, 2#8, by decide⟩

theorem witness_ReportSetsFlags : ∃ a b : Byte, (a.toNat ≤ 2 ∧ a = 0#8) ∧ (b.toNat ≤ 2 ∧ b ≠ 0#8) := ⟨0#8, 2#8, by decide⟩

/-- The reset state with these answers ready, CONFIG written next, and then the moves `l`. -/
def configuring (sw ds : Byte) (l : List Input) : State :=
  { State.reset with env := { Env.initial with inputs := .host (.writeCmd 0x01#8) :: l, swAnswers := [sw], dsAnswers := [ds] } }

/-- The three branches. -/
theorem witness_ConfigDecidesOnAnswers : ∀ sw ds : Byte, (sw, ds) ∈ [(0x09#8, 0x07#8), (0x07#8, 0x03#8), (0x07#8, 0x07#8)] →
    ∃ (s : State) (sws dss : List Byte) (rest : List Input),
      s.romPatch = [] ∧ s.status.busy = false ∧ s.status.cfgd = false ∧ s.env.swAnswers = sw :: sws ∧ s.env.dsAnswers = ds :: dss
      ∧ s.env.inputs = .host (.writeCmd 0x01#8) :: blocks 5 ++ rest :=
  fun sw ds _ => ⟨configuring sw ds (blocks 5 ++ []), [], [], [], rfl, rfl, rfl, rfl, rfl, rfl⟩

/-- The EGA branch to Done. -/
theorem witness_ConfigDecides_ega : ∃ (s : State) (sw ds : Byte) (sws dss : List Byte) (rest : List Input),
    s.romPatch = [] ∧ s.status.busy = false ∧ s.status.cfgd = false ∧ s.env.swAnswers = sw :: sws ∧ s.env.dsAnswers = ds :: dss
    ∧ s.status.unsup = false ∧ s.idx.toNat = 0 ∧ sw ∈ s.cfg.egaCodes ∧ s.env.inputs = .host (.writeCmd 0x01#8) :: blocks 16007 ++ rest :=
  ⟨configuring 0x09#8 0x07#8 (blocks 16007 ++ []), 0x09#8, 0x07#8, [], [], [], rfl, rfl, rfl, rfl, rfl, rfl, rfl, by decide, rfl⟩

/-- The CGA branch to Done. -/
theorem witness_ConfigDecides_cga : ∃ (s : State) (sw ds : Byte) (sws dss : List Byte) (rest : List Input) (inRetrace noRetrace : List Bool) (d0 d1 : Bool),
    s.romPatch = [] ∧ s.status.busy = false ∧ s.status.cfgd = false ∧ s.env.swAnswers = sw :: sws ∧ s.env.dsAnswers = ds :: dss
    ∧ s.cfg.valid = true ∧ s.status.unsup = false ∧ s.idx.toNat = 0 ∧ sw ∉ s.cfg.egaCodes ∧ ds ≠ 0x07#8
    ∧ s.env.inputs = .host (.writeCmd 0x01#8) :: blocks 10 ++ polls (waitAnswers inRetrace d0 noRetrace d1) ++ blocks 32004 ++ rest :=
  ⟨configuring 0x07#8 0x03#8 (blocks 10 ++ polls (waitAnswers [true] false [false] true) ++ blocks 32004 ++ []), 0x07#8, 0x03#8, [], [], [],
    [true], [false], false, true, rfl, rfl, rfl, rfl, rfl, by decide, rfl, rfl, by decide, by decide, rfl⟩

theorem witness_ConfigDecides_clauses : 0x09#8 ∈ State.reset.cfg.egaCodes ∧ (0x07#8 ∉ State.reset.cfg.egaCodes ∧ 0x03#8 ≠ 0x07#8) := by decide

theorem witness_UnsupportedAdapterIsReported : ∃ (s : State) (sw : Byte) (sws dss : List Byte) (rest : List Input),
    s.romPatch = [] ∧ s.status.busy = false ∧ s.status.cfgd = false ∧ s.bind = 0#2 ∧ s.env.swAnswers = sw :: sws ∧ sw ∉ s.cfg.egaCodes
    ∧ s.env.dsAnswers = 0x07#8 :: dss ∧ s.env.inputs = .host (.writeCmd 0x01#8) :: blocks 7 ++ rest :=
  ⟨configuring 0x07#8 0x07#8 (blocks 7 ++ []), 0x07#8, [], [], [], rfl, rfl, rfl, rfl, rfl, by decide, rfl, rfl⟩

/-- IDLE with each command accepted, and with each refused; FAULT at both values. -/
theorem witness_IdleDispatchesCommand :
    (∃ s : State, s.cmd = some 0x01#8 ∧ s.status.cfgd = false) ∧ (∃ s : State, s.cmd = some 0x02#8 ∧ s.bind = 1#2)
    ∧ (∃ s : State, s.cmd = some 0x02#8 ∧ s.bind = 2#2) ∧ (∃ s : State, s.cmd = some 0x03#8) ∧ (∃ s : State, s.cmd = some 0x04#8)
    ∧ (∃ s : State, s.cmd = some 0x01#8 ∧ s.status.cfgd = true ∧ s.status.fault = false)
    ∧ (∃ s : State, s.cmd = some 0x02#8 ∧ s.bind ≠ 1#2 ∧ s.bind ≠ 2#2 ∧ s.status.fault = true)
    ∧ (∃ (s : State) (c : Byte), s.cmd = some c ∧ c ∉ [0x01#8, 0x02#8, 0x03#8, 0x04#8]) :=
  ⟨⟨{ State.reset with cmd := some 0x01#8 }, by decide⟩, ⟨{ State.reset with cmd := some 0x02#8, bind := 1#2 }, by decide⟩,
   ⟨{ State.reset with cmd := some 0x02#8, bind := 2#2 }, by decide⟩, ⟨{ State.reset with cmd := some 0x03#8 }, by decide⟩,
   ⟨{ State.reset with cmd := some 0x04#8 }, by decide⟩, ⟨{ State.reset with cmd := some 0x01#8, status := ⟨false, true, false, false⟩ }, by decide⟩,
   ⟨{ refusedOnce 2#8 with cmd := some 0x02#8 }, by decide⟩, ⟨{ State.reset with cmd := some 0x05#8 }, 0x05#8, by decide⟩⟩

theorem witness_IdleWaitsForHost : ∃ s : State, s.cmd = none := ⟨State.reset, rfl⟩

theorem witness_CommandsAreAccepted :
    (∃ s : State, s.status.busy = false ∧ s.status.cfgd = false) ∧ (∃ s : State, s.status.busy = false ∧ s.bind = 1#2)
    ∧ (∃ s : State, s.status.busy = false ∧ s.bind = 2#2) :=
  ⟨⟨State.reset, by decide⟩, ⟨{ State.reset with bind := 1#2 }, by decide⟩, ⟨{ State.reset with bind := 2#2 }, by decide⟩⟩

/-- Each action of the host that BUSY turns away, and the three refusals of an idle block. -/
theorem witness_CommandsAreRefused :
    (∀ a ∈ [HostAction.writeCmd 0x00#8, .lfbWrite 0 0#8, .lfbRead 16000], ∃ s : State, s.status.busy = true ∧ s.status.fault = false
      ∧ ((∃ c, a = .writeCmd c) ∨ (∃ i v, a = .lfbWrite i v) ∨ ∃ i, a = .lfbRead i))
    ∧ (∃ s : State, s.status.busy = false ∧ s.bind = 0#2 ∧ s.status.fault = true)
    ∧ (∃ s : State, s.status.busy = false ∧ s.status.cfgd = true ∧ s.status.fault = false)
    ∧ (∃ (s : State) (c : Byte), s.status.busy = false ∧ c ∉ [0x01#8, 0x02#8, 0x03#8, 0x04#8]) :=
  ⟨fun a h => ⟨busy, by decide, by decide, by
      simp only [List.mem_cons, List.not_mem_nil, or_false] at h
      rcases h with rfl | rfl | rfl <;> simp⟩,
   ⟨refusedOnce 5#8, by decide⟩, ⟨{ State.reset with status := ⟨false, true, false, false⟩ }, by decide⟩, ⟨State.reset, 0x05#8, by decide⟩⟩

/-- The last index, the first one beyond, and a busy block. -/
theorem witness_LfbAccess :
    (∃ (s : State) (i : Nat) (w : Byte), s.status.busy = false ∧ i < 16000 ∧ i = 15999 ∧ s.lfb.read? i = some w)
    ∧ (∃ (s : State) (i : Nat) (r : Reason) (code : Byte), s.status.busy = false ∧ 16000 ≤ i ∧ r = .outOfRange ∧ code = 5#8 ∧ i = 16000)
    ∧ (∃ (s : State) (r : Reason) (code : Byte), s.status.busy = true ∧ r = .busyAccess ∧ code = 4#8) :=
  ⟨⟨{ State.reset with lfb := [(15999, 8#8)] }, 15999, 8#8, by decide⟩, ⟨State.reset, 16000, _, _, by decide, by decide, rfl, rfl, rfl⟩, ⟨busy, _, _, by decide, rfl, rfl⟩⟩

theorem witness_RestoreReturnsToText : ∃ (s : State) (rest : List Input), s.romPatch = [] ∧ s.upc = 0x00#8 ∧ s.status.busy = false
    ∧ s.env.inputs = .host (.writeCmd 0x04#8) :: blocks 2 ++ rest :=
  ⟨moves (.host (.writeCmd 0x04#8) :: blocks 2 ++ []), [], rfl, rfl, rfl, rfl⟩

theorem witness_RaiseKeepsFirstReason : ∃ s u : State, s.status.fault = false ∧ u.status.fault = true := ⟨State.reset, refusedOnce 1#8, by decide, by decide⟩

theorem witness_ResetInput : ∃ (s : State) (rest : List Input), s.env.inputs = .reset :: rest := ⟨busy.withInputs [.reset], [], rfl⟩

theorem witness_ReservedWordSticks :
    (∃ s : State, Reserved (s.fetchWord.toNat / 256) (s.fetchWord.toNat % 256))
    ∧ ∃ a b c d e : Byte, (2 ≤ a.toNat ∧ a = 2#8) ∧ (4 ≤ b.toNat ∧ b = 4#8) ∧ (c ≠ 1#8 ∧ c ≠ 2#8 ∧ c = 0#8) ∧ (d ≠ 1#8 ∧ d ≠ 2#8 ∧ d = 3#8) ∧ 3 ≤ e.toNat ∧ e = 3#8 := by
  refine ⟨⟨at_ 0xFF#8, ?_⟩, 2#8, 4#8, 0#8, 3#8, 3#8, by decide⟩
  have h : (at_ 0xFF#8).fetchWord = 0xFFFF#16 := by decide
  simp [h, Reserved, plainOps]

/-- The first index beyond each loop, the first plane counter beyond, the first offset beyond a small plane, no plane, a plane with PL at 4, and another plane than PL. -/
theorem witness_OutOfRangeOperands :
    (∃ s : State, 8000 ≤ s.idx.toNat ∧ s.idx.toNat = 8000) ∧ (∃ s : State, 16000 ≤ s.idx.toNat ∧ s.idx.toNat = 16000)
    ∧ (∃ s : State, 4 ≤ s.pl.toNat ∧ s.pl.toNat = 4)
    ∧ (∃ s : State, s.idx.toNat < 8000 ∧ s.cfg.egaPlaneSize ≤ s.pageAct.toNat + s.idx.toNat)
    ∧ (∃ s : State, s.idx.toNat < 8000 ∧ s.pageAct.toNat + s.idx.toNat < s.cfg.egaPlaneSize ∧ s.adapter.plane = none)
    ∧ (∃ (s : State) (q : Fin 4), s.idx.toNat < 8000 ∧ s.pageAct.toNat + s.idx.toNat < s.cfg.egaPlaneSize ∧ s.adapter.plane = some q ∧ s.pl.toNat = 4)
    ∧ (∃ (s : State) (q : Fin 4), s.idx.toNat < 8000 ∧ s.pageAct.toNat + s.idx.toNat < s.cfg.egaPlaneSize
        ∧ s.adapter.plane = some q ∧ s.pl.toNat < 4 ∧ s.pl.toNat ≠ q.val) :=
  ⟨⟨idxAt 8000#14, by decide⟩, ⟨idxAt 16000#14, by decide⟩, ⟨{ State.reset with pl := 4#3 }, by decide⟩,
   ⟨{ idxAt 0#14 with pageAct := 0x2000#16, cfg := { Config.Params.default with egaPlaneSize := 0x2000 } }, by decide⟩,
   ⟨idxAt 7999#14, by decide⟩, ⟨{ sliceState with pl := 4#3 }, 1, by decide⟩, ⟨{ sliceState with pl := 3#3 }, 1, by decide⟩⟩

theorem witness_ResetMeetsInvariant : ∃ p : Config.Params, p.valid = true ∧ p ≠ Config.Params.default :=
  ⟨{ Config.Params.default with pageA := 0x0100#16, pageB := 0x4000#16 }, by decide, by decide⟩

theorem witness_StepKeepsInvariant : ∃ s t : State, s.Inv ∧ step s = .next t := ⟨sliceState, _, sliceState_inv, rfl⟩

/-- WAITV about to leave its second poll. -/
def lastPoll : State :=
  { State.reset.withInputs (blocks 3) with
    upc := 0x02#8, ret := 0x05#8, status := ⟨true, false, false, false⟩, adapter := { Adapter.initial with vr := true } }

theorem lastPoll_inv : lastPoll.Inv where
  params := by decide
  rom := rfl
  mem := by decide
  pages := Or.inl ⟨rfl, rfl⟩
  glyphs := fun _ _ h => nomatch h
  noCmd := rfl
  busy := by decide
  fault := by decide
  phase := by decide

/-- The idle block with nothing to come. -/
def Quiet (s : State) : Prop := s.romPatch = [] ∧ s.upc = 0x00#8 ∧ s.cmd = none ∧ s.env.inputs = []

theorem step_quiet {s : State} (h : Quiet s) : step s = .next s.freeLines := by
  obtain ⟨hr, hu, hc, hi⟩ := h
  have hd : decodeMicro s.freeLines.fetchWord = .ok .idle := by
    have hw : s.freeLines.fetchWord = romWord [] 0x00#8 := by simp [State.fetchWord, hr, hu]
    rw [hw]; decide
  rw [step_of_nil hi, blockStep_of_decode hd]
  simp [exec, execIdle, hc]

/-- The lines are live: the block polls once more and is idle for ever after. -/
theorem lastPoll_live : lastPoll.linesLive := by
  intro h
  obtain ⟨n, vr, de, hn, -, u, t, hu, ht, he⟩ := h 3
  obtain ⟨w, hw, qw⟩ : ∃ w, Sys2Proof.core.run 3 lastPoll = .next w ∧ Quiet w := ⟨_, rfl, rfl, rfl, rfl, rfl⟩
  obtain ⟨k, rfl⟩ := Nat.le.dest hn
  rw [run_add hw] at hu
  have qu : Quiet u := by
    refine run_invariant (P := Quiet) ?_ qw hu
    intro a b qa hab
    rw [step_quiet qa] at hab
    cases hab
    exact qa
  rw [step_quiet qu] at ht
  cases ht
  have hlen : u.events.length = u.events.length + 1 := congrArg List.length he
  omega

theorem witness_InvariantNeverStops : (∃ s : State, s.Inv) ∧ ∃ s : State, s.Inv ∧ s.linesLive ∧ s.status.busy = true ∧ .reset ∉ s.env.inputs :=
  ⟨⟨sliceState, sliceState_inv⟩, lastPoll, lastPoll_inv, lastPoll_live, rfl, by decide⟩

theorem witness_StepKeepsMemoriesCanonical : ∃ s t : State, s.memSound = true ∧ step s = .next t ∧ t.adapter.egahw ≠ s.adapter.egahw :=
  ⟨sliceState, _, by decide, rfl, by decide⟩

theorem witness_StepKeepsPagePair : ∃ s t : State, s.pagePair ∧ step s = .next t ∧ t.pageVis ≠ s.pageVis :=
  ⟨at_ 0x14#8, _, Or.inl ⟨rfl, rfl⟩, rfl, by decide⟩

theorem witness_StepKeepsGlyphBytes : ∃ s t : State, s.glyphsKept ∧ step s = .next t ∧ t.adapter.cgahw ≠ s.adapter.cgahw :=
  ⟨at_ 0x2A#8, _, no_glyphs, rfl, by decide⟩

/-- An instruction and a host action that write. -/
theorem witness_RegistersHaveOneWriter : (∃ (i : Instr) (s t : State), exec i s = .next t ∧ t.sa ≠ s.sa)
    ∧ ∃ (a : HostAction) (s t : State), hostStep a s = .next t ∧ (∀ c, a ≠ .writeCmd c) ∧ t.lfb ≠ s.lfb :=
  ⟨⟨.saddr, { State.reset with pageVis := 0x2000#16 }, _, rfl, by decide⟩,
   ⟨.lfbWrite 15999 1#8, State.reset, State.reset.writeLfb 15999 1#8, rfl, by simp, by decide⟩⟩

theorem witness_FaultIsSticky : ∃ s t : State, step s = .next t ∧ s.status.fault = true ∧ s.env.inputs.head? ≠ some .reset :=
  ⟨(refusedOnce 2#8).withInputs [.host (.writeCmd 0x00#8)], _, rfl, by decide, by decide⟩

end Sys2Proof.Tests
end

