-- ==== Sys2Proof/Proofs/Encoding.lean ====
section
/-! PROOF. The statements of 30_encoding.md: the data formats of the two presenters (R83, R86) and the command codes (R70, R71). -/

namespace Sys2Proof.Claims

open Sys2Proof.Machine

/-! ## CGA bytes (30_encoding.md R83) -/

/-- A pixel has no bit above bit 3. -/
theorem getLsbD_of_pixel {v : Byte} (hv : v.toNat ≤ 15) {i : Nat} (hi : 4 ≤ i) : v.getLsbD i = false :=
  Nat.testBit_lt_two_pow ((Nat.lt_succ_of_le hv).trans_le (Nat.pow_le_pow_right Nat.two_pos hi))

/-- The low nibble holds a pixel whole. -/
theorem toNat_lowNibble_of_pixel {v : Byte} (hv : v.toNat ≤ 15) : (v.extractLsb' 0 4).toNat = v.toNat := by
  rw [BitVec.extractLsb'_toNat, Nat.shiftRight_zero, Nat.mod_eq_of_lt (Nat.lt_succ_of_le hv)]

theorem setWidth_lowNibble_of_pixel {v : Byte} (hv : v.toNat ≤ 15) : (v.extractLsb' 0 4).setWidth 8 = v :=
  BitVec.eq_of_toNat_eq (by rw [BitVec.toNat_setWidth, toNat_lowNibble_of_pixel hv, Nat.mod_eq_of_lt v.isLt])

/-- The bits of the shift and the bits of the two nibbles side by side are the same. -/
theorem packByte_eq_nibbles {p0 : Byte} (p1 : Byte) (h0 : p0.toNat ≤ 15) : packByte p0 p1 = nibbles p0 p1 := by
  refine BitVec.eq_of_getLsbD_eq fun i hi => ?_
  rw [packByte, nibbles, BitVec.getLsbD_or, BitVec.getLsbD_shiftLeft, BitVec.getLsbD_append]
  by_cases h4 : i < 4
  · simp [h4]
  · have hbit : p0.getLsbD i = false := getLsbD_of_pixel h0 (Nat.le_of_not_lt h4)
    have hhigh : i - 4 < 4 := by omega
    simp [h4, hi, hhigh, hbit, -BitVec.getLsbD_eq_getElem]

theorem toNat_nibbles {p0 p1 : Byte} (h0 : p0.toNat ≤ 15) (h1 : p1.toNat ≤ 15) :
    (nibbles p0 p1).toNat = 16 * p1.toNat + p0.toNat := by
  rw [nibbles, BitVec.toNat_append, toNat_lowNibble_of_pixel h0, toNat_lowNibble_of_pixel h1,
    ← Nat.shiftLeft_add_eq_or_of_lt (Nat.lt_succ_of_le h0), Nat.shiftLeft_eq]
  omega

theorem unpackByte_nibbles {p0 p1 : Byte} (h0 : p0.toNat ≤ 15) (h1 : p1.toNat ≤ 15) :
    unpackByte (nibbles p0 p1) = (p0, p1) := by
  have hlow : (nibbles p0 p1).extractLsb' 0 4 = p0.extractLsb' 0 4 := BitVec.extractLsb'_append_eq_right
  have hhigh : (nibbles p0 p1).extractLsb' 4 4 = p1.extractLsb' 0 4 := BitVec.extractLsb'_append_eq_left
  rw [unpackByte, hlow, hhigh, setWidth_lowNibble_of_pixel h0, setWidth_lowNibble_of_pixel h1]

/-- Settles O15: on pixels the packed byte is the two nibbles side by side, and those are its value and its halves. -/
theorem cgaPackRoundTrip : Obligations.CgaPackRoundTrip := by
  intro p0 p1 h0 h1
  rw [packByte_eq_nibbles p1 h0]
  exact ⟨toNat_nibbles h0 h1, rfl, unpackByte_nibbles h0 h1⟩

/-! ## EGA bytes (30_encoding.md R86) -/

theorem getLsbD_zero_planeBit (q : Byte) (p : Nat) : (planeBit q p).getLsbD 0 = q.getLsbD p := by
  simp [planeBit]

/-- Bit `j` of a plane byte is bit `p` of the pixel whose pair of bits `j` lies in, counted from the top. -/
theorem getLsbD_sliceByte (q0 q1 q2 q3 : Byte) (p : Nat) {j : Nat} (hj : j < 8) :
    (sliceByte q0 q1 q2 q3 p).getLsbD j = ([q0, q1, q2, q3][3 - j / 2]'(show 3 - j / 2 < 4 by omega)).getLsbD p := by
  rw [sliceByte, BitVec.getLsbD_append]
  simp only [BitVec.getLsbD_append]
  interval_cases j <;> simp [getLsbD_zero_planeBit, -BitVec.getLsbD_eq_getElem]

/-- Bit `p` of the pixel read back from four bytes is bit `7 - 2k` of the byte of plane `p`. -/
theorem getLsbD_unslice (b0 b1 b2 b3 : Byte) (k : Nat) {p : Nat} (hp : p < 4) :
    (unslice b0 b1 b2 b3 k).getLsbD p = ([b0, b1, b2, b3][p]).getLsbD (7 - 2 * k) := by
  rw [unslice, BitVec.getLsbD_append]
  simp only [BitVec.getLsbD_append]
  interval_cases p <;> simp [getLsbD_zero_planeBit, -BitVec.getLsbD_eq_getElem]

/-- Settles O21: the pair of bits of position `k` is `7 - 2k` and `6 - 2k`, and the four planes hold the four bits of the pixel. -/
theorem egaSliceRoundTrip : Obligations.EgaSliceRoundTrip := by
  intro q0 q1 q2 q3
  have hbits (p k : Nat) (hk : k < 4) :
      (sliceByte q0 q1 q2 q3 p).getLsbD (7 - 2 * k) = ([q0, q1, q2, q3][k]'hk).getLsbD p
      ∧ (sliceByte q0 q1 q2 q3 p).getLsbD (6 - 2 * k) = ([q0, q1, q2, q3][k]'hk).getLsbD p := by
    have h7 : 3 - (7 - 2 * k) / 2 = k := by omega
    have h6 : 3 - (6 - 2 * k) / 2 = k := by omega
    rw [getLsbD_sliceByte _ _ _ _ _ (by omega), getLsbD_sliceByte _ _ _ _ _ (by omega)]
    simp only [h7, h6, and_self]
  refine ⟨fun p _ k hk => hbits p k hk, fun k hk => BitVec.eq_of_getLsbD_eq fun p hp => ?_⟩
  rw [getLsbD_unslice _ _ _ _ _ hp, BitVec.getLsbD_extractLsb', Nat.zero_add, ← (hbits p k hk).1, decide_eq_true hp, Bool.true_and]
  interval_cases p <;> rfl

/-! ## Command bytes (30_encoding.md R70, R71) -/

@[simp] theorem history_emit (s : State) (e : Event) : (s.emit e).history = s.history ++ [e] :=
  State.history_of_events rfl

@[simp] theorem history_raise (s : State) (r : Reason) : (s.raise r).history = s.history ++ [.refused r] :=
  State.history_of_events rfl

@[simp] theorem history_accept (s : State) (entry : Byte) : (s.accept entry).history = s.history := rfl

/-- A command instruction is the host's write of its byte. -/
theorem exec_of_decodeCommand {c : Byte} {i : Instr} (h : decodeCommand c = .ok i) (s : State) : exec i s = hostWriteCmd c s := by
  rw [← commandStep_eq, commandStep, h]

theorem decodeCommand_of_reserved {c : Byte} (h : c ∉ [0x01#8, 0x02#8, 0x03#8, 0x04#8]) :
    decodeCommand c = .error (.reservedCommand c) := by
  simp only [List.mem_cons, List.not_mem_nil, or_false, not_or] at h
  simp [decodeCommand, h]

theorem dispatchCommand_of_reserved {c : Byte} (h : c ∉ [0x01#8, 0x02#8, 0x03#8, 0x04#8]) (s : State) :
    s.dispatchCommand c = (s.emit (.cmd c)).raise .illegalCommand := by
  simp only [List.mem_cons, List.not_mem_nil, or_false, not_or] at h
  simp [State.dispatchCommand, h]

theorem dispatchCommand_config {s : State} (h : s.status.cfgd = false) :
    s.dispatchCommand 0x01#8 = (s.emit (.cmd 0x01#8)).accept 0x20#8 := by simp [State.dispatchCommand, h]

theorem dispatchCommand_present_cga {s : State} (h : s.bind = 1#2) :
    s.dispatchCommand 0x02#8 = (s.emit (.cmd 0x02#8)).accept 0x08#8 := by simp [State.dispatchCommand, h]

theorem dispatchCommand_present_ega {s : State} (h : s.bind = 2#2) :
    s.dispatchCommand 0x02#8 = (s.emit (.cmd 0x02#8)).accept 0x10#8 := by simp [State.dispatchCommand, h]

theorem dispatchCommand_waitv (s : State) : s.dispatchCommand 0x03#8 = (s.emit (.cmd 0x03#8)).accept 0x04#8 := rfl

theorem dispatchCommand_restore (s : State) : s.dispatchCommand 0x04#8 = (s.emit (.cmd 0x04#8)).accept 0x3C#8 := rfl

/-- With BUSY = 0 a command that IDLE accepts at `entry` logs its byte, starts there and leaves the rest as it was. -/
theorem hostWriteCmd_accepted {s : State} {c entry : Byte} (hidle : s.status.busy = false)
    (h : { s with cmd := none }.dispatchCommand c = ({ s with cmd := none }.emit (.cmd c)).accept entry) :
    ∃ t, hostWriteCmd c s = .next t ∧ t.history = s.history ++ [.cmd c] ∧ t.upc = entry ∧ t.status = { s.status with busy := true }
      ∧ t = { s with cmd := none, events := t.events, status := t.status, upc := t.upc } :=
  ⟨_, (hostWriteCmd_idle hidle).trans (congrArg _ h), history_emit { s with cmd := none } _, rfl, rfl, rfl⟩

/-- With BUSY = 0 a command that IDLE refuses logs its byte and the reason, sets FAULT, keeps the first FCODE and leaves the rest as it was. -/
theorem hostWriteCmd_refused {s : State} {c : Byte} {r : Reason} (hidle : s.status.busy = false)
    (h : { s with cmd := none }.dispatchCommand c = ({ s with cmd := none }.emit (.cmd c)).raise r) :
    ∃ t, hostWriteCmd c s = .next t ∧ t.history = s.history ++ [.cmd c, .refused r]
      ∧ t.status = { s.status with fault := true } ∧ (s.status.fault = false → t.fcode = r.code) ∧ (s.status.fault = true → t.fcode = s.fcode)
      ∧ t = { s with cmd := none, events := t.events, status := t.status, fcode := t.fcode } := by
  refine ⟨_, (hostWriteCmd_idle hidle).trans (congrArg _ h), ?_, rfl, fun hf => ?_, fun hf => ?_, rfl⟩
  · simp [State.history]
  · simp [hf]
  · simp [hf]

/-- Settles O5: a reserved byte is no command, and IDLE refuses it as IllegalCommand. -/
theorem reservedCommandIsIllegal : Obligations.ReservedCommandIsIllegal := by
  intro c s hc hidle
  rw [show hostStep (.writeCmd c) s = hostWriteCmd c s from commandStep_eq c s]
  exact ⟨decodeCommand_of_reserved hc, hostWriteCmd_refused hidle (dispatchCommand_of_reserved hc _)⟩

/-- Settles O44: each command decodes from its byte, and IDLE accepts that byte at its entry. -/
theorem commandsAreAccepted : Obligations.CommandsAreAccepted := by
  intro s i c entry hidle hcommand
  have ⟨hdecode, haccept⟩ : decodeCommand c = .ok i
      ∧ { s with cmd := none }.dispatchCommand c = ({ s with cmd := none }.emit (.cmd c)).accept entry := by
    obtain ⟨rfl, rfl, rfl, hcfgd⟩ | ⟨rfl, rfl, rfl, hbind⟩ | ⟨rfl, rfl, rfl, hbind⟩ | ⟨rfl, rfl, rfl⟩ | ⟨rfl, rfl, rfl⟩ := hcommand
    · exact ⟨rfl, dispatchCommand_config hcfgd⟩
    · exact ⟨rfl, dispatchCommand_present_cga hbind⟩
    · exact ⟨rfl, dispatchCommand_present_ega hbind⟩
    · exact ⟨rfl, dispatchCommand_waitv _⟩
    · exact ⟨rfl, dispatchCommand_restore _⟩
  rw [exec_of_decodeCommand hdecode]
  exact ⟨hdecode, hostWriteCmd_accepted hidle haccept⟩

end Sys2Proof.Claims
end

