-- ==== Sys2Proof/Proofs/Sync.lean ====
section
/-! PROOF. The statements of 40_sync.md: the polls (R100 to R102), CALL (R103) and RET (R106). Before them the decoding of a micro-word that takes an argument (30_encoding.md R73), for every row of the table. -/

namespace Sys2Proof.Claims

open Sys2Proof.Machine

/-! ## The row of a micro-word (30_encoding.md R72, R73) -/

/-- Every mask keeps the whole op field, so a row selects only words of its own op. -/
theorem opField_eq_of_selects {r : MicroRow} (hr : r ∈ microTable) {w : Word} (h : r.selects w = true) :
    opField r.pattern = opField w := by
  have hmask : opField r.mask = BitVec.allOnes 8 := (by decide : ∀ q ∈ microTable, opField q.mask = BitVec.allOnes 8) r hr
  calc opField r.pattern = opField (w &&& r.mask) := congrArg opField (eq_of_beq h).symm
    _ = opField w &&& opField r.mask := BitVec.extractLsb'_and
    _ = opField w := by rw [hmask, BitVec.and_allOnes]

/-- No two rows have the same op. -/
theorem microTable_ops_nodup : (microTable.map fun r => opField r.pattern).Nodup := by decide

/-- A word selected by a row of the table is selected by no other. -/
theorem find?_microTable_of_selects {r : MicroRow} (hr : r ∈ microTable) {w : Word} (h : r.selects w = true) :
    microTable.find? (fun q => q.selects w) = some r := by
  have hsome : (microTable.find? fun q => q.selects w).isSome := List.find?_isSome.mpr ⟨r, hr, h⟩
  obtain ⟨q, hq⟩ := Option.isSome_iff_exists.mp hsome
  have hmem : q ∈ microTable := List.mem_of_find?_eq_some hq
  have hsel : q.selects w = true := by simpa using List.find?_some hq
  have hop : opField q.pattern = opField r.pattern :=
    (opField_eq_of_selects hmem hsel).trans (opField_eq_of_selects hr h).symm
  rw [hq, List.inj_on_of_nodup_map microTable_ops_nodup hmem hr hop]

/-- The row of an op with an argument selects that op with every argument. -/
theorem argRow_selects (op a : Byte) (legal : Byte → Bool) (build : Byte → Instr) :
    (argRow (op ++ 0#8) legal build).selects (op ++ a) = true := by
  have hmask : (op ++ a) &&& (BitVec.allOnes 8 ++ 0#8) = op ++ 0#8 := by
    rw [BitVec.and_append, BitVec.and_allOnes, BitVec.and_zero]
  exact beq_iff_eq.mpr hmask

/-- An op with an argument decodes by its row: the row builds the instruction from a legal argument and rejects any other. -/
theorem decodeMicro_of_argRow {op : Byte} {legal : Byte → Bool} {build : Byte → Instr}
    (hr : argRow (op ++ 0#8) legal build ∈ microTable) (a : Byte) :
    decodeMicro (op ++ a) = if legal a then .ok (build a) else .error (.argNotLegal (op ++ a)) := by
  have harg : argField (op ++ a) = a := BitVec.extractLsb'_append_eq_right
  rw [decodeMicro, find?_microTable_of_selects hr (argRow_selects op a legal build), harg]
  rfl

/-! ## Polls (40_sync.md R100 to R102) -/

@[simp] theorem history_statusRead (s : State) : s.statusRead.history = s.history ++ [.statusRead s.adapter.vr s.adapter.de] :=
  State.history_of_events rfl

/-- A poll logs the two lines, stays or goes on, and leaves the rest as it was. -/
theorem exec_poll {i : Instr} {s : State} {stay : Bool} (h : exec i s = .next (s.statusRead.advanceUnless stay))
    {again leave : Prop} (hagain : again → stay = true) (hleave : leave → stay = false) :
    ∃ t, exec i s = .next t ∧ t.history = s.history ++ [.statusRead s.adapter.vr s.adapter.de]
      ∧ (again → t.upc = s.upc) ∧ (leave → t.upc = s.upc + 1#8) ∧ t = { s with upc := t.upc, events := t.events } := by
  refine ⟨_, h, history_statusRead s, fun hp => ?_, fun hq => ?_, rfl⟩
  · simp [hagain hp]
  · simp [hleave hq]

/-- Settles O9: each of the three is a poll; WVHI stays on the line's other level. -/
theorem pollsStayOnTheirLine : Obligations.PollsStayOnTheirLine := by
  refine ⟨by decide, by decide, by decide, fun s => ⟨?wvlo, ?wvhi, ?wde⟩⟩
  case wvlo => exact exec_poll (stay := wvloStays s.adapter) rfl id id
  case wvhi => exact exec_poll (stay := wvhiStays s.adapter) rfl (congrArg Bool.not) (congrArg Bool.not)
  case wde => exact exec_poll (stay := wdeStays s.adapter) rfl id id

/-! ## CALL and RET (40_sync.md R103, R106) -/

/-- Every 8-bit argument of CALL is a legal target. -/
theorem decodeMicro_call (a : Byte) : decodeMicro (0x02#8 ++ a) = .ok (.call a) :=
  decodeMicro_of_argRow (legal := anyAddress) (build := .call) (List.getElem_mem (l := microTable) (n := 2) (by decide)) a

theorem exec_call (a : Byte) (s : State) : exec (.call a) s = .next ({ s with ret := s.upc + 1#8 }.jump a) := rfl

theorem exec_ret (s : State) : exec .ret s = .next (s.jump s.ret) := rfl

/-- Settles O10: both are jumps, and CALL sets the link before it jumps. -/
theorem callLinksAndRetReturns : Obligations.CallLinksAndRetReturns :=
  ⟨by decide, fun a s => ⟨decodeMicro_call a, ⟨_, exec_call a s, rfl, rfl, rfl⟩, ⟨_, exec_ret s, rfl, rfl⟩⟩⟩

end Sys2Proof.Claims
end

section
/-! PROOF. The statements of 41_cga_presenter.md: one step of PACK (R110) and one of COPY (R111). Before them the end of a loop step (10_state.md R16), for every loop of the micro-program. -/

namespace Sys2Proof.Claims

open Sys2Proof.Machine

/-! ## The end of a loop step (10_state.md R16) -/

/-- Below the top of IDX's 14 bits the increment does not wrap, so `loopNext` ends the step as R16 says, after any update that keeps IDX and UPC. -/
theorem loopEnd_loopNext {last : Nat} {s u : State} (hidx : u.idx = s.idx) (hupc : u.upc = s.upc) (hlt : s.idx.toNat + 1 < 2 ^ 14) :
    LoopEnd last s (u.loopNext last) := by
  refine ⟨fun hlast => ?_, fun hlast => ?_⟩
  · simp [hidx, hupc, hlast]
  · simpa [hidx, hupc, hlast] using hlt

/-! ## PACK (41_cga_presenter.md R110) -/

/-- Inside the loop both offsets of PACK are in their spaces. -/
theorem exec_pack {s : State} (h : s.idx.toNat < 8000) : exec .pack s = .next ((s.packPair s.idx.toNat).loopNext 7999) := by
  have hlfb : pairSecond s.idx.toNat < 16000 := by rw [pairSecond]; omega
  exact (checked_of_lt _ hlfb).trans (checked_of_lt _ h)

/-- The pair of two pixels is stored as its two nibbles and uses no free byte; any other pair is stored as some byte. -/
theorem packPair_stores (s : State) (i : Nat) :
    ∃ v n, s.packPair i = { s with stage := s.stage.write i v, env := { s.env with freeCount := n } }
      ∧ ((s.lfbAt (2 * i)).toNat ≤ 15 → (s.lfbAt (2 * i + 1)).toNat ≤ 15 → v = packedPair s i ∧ n = s.env.freeCount) := by
  by_cases hpix : (s.lfbAt (2 * i)).toNat ≤ 15 ∧ (s.lfbAt (2 * i + 1)).toNat ≤ 15
  · obtain ⟨h0, h1⟩ := hpix
    exact ⟨_, _, State.packPair_of_pixels h0 h1, fun _ _ => ⟨packByte_eq_nibbles _ h0, rfl⟩⟩
  · exact ⟨_, _, State.packPair_of_not_pixels hpix, fun h0 h1 => absurd ⟨h0, h1⟩ hpix⟩

/-- Settles O13: the step is the store of the pair and the end of a loop step. -/
theorem packStoresPackedPair : Obligations.PackStoresPackedPair := by
  refine ⟨by decide, fun s h => ?_⟩
  obtain ⟨v, n, hpair, hpixels⟩ := packPair_stores s s.idx.toNat
  have hstep := exec_pack h
  rw [hpair] at hstep
  refine ⟨_, v, hstep, ?stored, ?others, ?packed, loopEnd_loopNext rfl rfl (by omega), rfl⟩
  case stored => exact Memory.read?_write_self _ _ _
  case others => exact fun a ha => Memory.read?_write_other _ _ ha
  case packed =>
    intro h0 h1
    obtain ⟨hv, rfl⟩ := hpixels h0 h1
    exact ⟨hv, rfl⟩

/-! ## COPY (41_cga_presenter.md R111) -/

/-- Inside the loop both offsets of COPY are in their spaces. -/
theorem exec_copy {s : State} (h : s.idx.toNat < 8000) :
    exec .copy s = .next ((s.writeCga (2 * s.idx.toNat + 1) (s.stageAt s.idx.toNat)).loopNext 7999) := by
  have hcga : pairOffset s.idx.toNat < 16000 := by rw [pairOffset]; omega
  exact (checked_of_lt _ h).trans (checked_of_lt _ hcga)

theorem stageAt_of_read {s : State} {i : Nat} {v : Byte} (h : s.stage.read? i = some v) : s.stageAt i = v := by
  simp [State.stageAt, h]

@[simp] theorem history_writeCga (s : State) (off : Nat) (v : Byte) : (s.writeCga off v).history = s.history ++ [.hwWriteCga off v] :=
  State.history_of_events rfl

/-- Settles O14: the step is the write at the odd offset and the end of a loop step. -/
theorem copyWritesOddOffset : Obligations.CopyWritesOddOffset := by
  refine ⟨by decide, fun s v h hv => ?_⟩
  subst hv
  refine ⟨fun w hw => stageAt_of_read hw, _, exec_copy h, ?history, ?written, ?others, loopEnd_loopNext rfl rfl (by omega), rfl⟩
  case history => exact history_writeCga s _ _
  case written => exact Memory.read?_write_self _ _ _
  case others => exact fun a ha => Memory.read?_write_other _ _ ha

end Sys2Proof.Claims
end

section
/-! PROOF. The statements of 42_ega_presenter.md about single micro-operations: the plane loop (R120, R121, R124), one step of SLICE (R122), the page exchange (R125) and the two halves of the start address (R126 to R128). -/

namespace Sys2Proof.Claims

open Sys2Proof.Machine

/-! ## The plane loop (42_ega_presenter.md R120, R121, R124) -/

theorem exec_plinit (s : State) : exec .plinit s = .next { s with pl := 0#3 }.advance := rfl

/-- Settles O18: the step clears PL and goes on. -/
theorem plinitStartsPlaneLoop : Obligations.PlinitStartsPlaneLoop :=
  ⟨by decide, fun s => ⟨_, exec_plinit s, rfl, rfl, rfl⟩⟩

@[simp] theorem history_planeSelect (s : State) (p : Fin 4) : (s.planeSelect p).history = s.history ++ [.planeSelect p] :=
  State.history_of_events rfl

theorem exec_psel {s : State} {p : Fin 4} (h : s.pl.toNat = p.val) : exec .psel s = .next (s.planeSelect p).advance :=
  execPsel_of_plane h

/-- Settles O19: at a plane number PSEL is the selection of that plane, with no free value used. -/
theorem pselSelectsCountedPlane : Obligations.PselSelectsCountedPlane :=
  ⟨by decide, fun s p h => ⟨_, exec_psel h, rfl, history_planeSelect s p, rfl, rfl⟩⟩

/-- Every 8-bit argument of PLNEXT is a legal target. -/
theorem decodeMicro_plnext (a : Byte) : decodeMicro (0x06#8 ++ a) = .ok (.plnext a) :=
  decodeMicro_of_argRow (legal := anyAddress) (build := .plnext) (List.getElem_mem (l := microTable) (n := 6) (by decide)) a

theorem exec_plnext (a : Byte) (s : State) :
    exec (.plnext a) s = .next ({ s with pl := BitVec.ofNat 3 (nextPlane s.pl) }.branch (planesLeft s.pl) a) := rfl

/-- Up to plane 3 the incremented counter fits PL's 3 bits. -/
theorem toNat_ofNat_nextPlane {pl : BitVec 3} (h : pl.toNat ≤ 3) : (BitVec.ofNat 3 (nextPlane pl)).toNat = pl.toNat + 1 := by
  rw [nextPlane, BitVec.toNat_ofNat, Nat.mod_eq_of_lt (by omega)]

/-- `PL + 1 < 4` is a test on the old PL. -/
theorem planesLeft_eq (pl : BitVec 3) : planesLeft pl = decide (pl.toNat < 3) :=
  decide_eq_decide.mpr Nat.succ_lt_succ_iff

/-- Settles O25: the step is a branch on the old PL after an increment that does not wrap. -/
theorem plnextLoopsBelowFour : Obligations.PlnextLoopsBelowFour := by
  refine fun a s h => ⟨decodeMicro_plnext a, _, exec_plnext a s, toNat_ofNat_nextPlane h, fun hloop => ?_, fun hlast => ?_, rfl⟩
  · simp [planesLeft_eq, hloop]
  · simp [planesLeft_eq, hlast]

/-! ## SLICE (42_ega_presenter.md R122) -/

/-- The eight bits side by side are the list of them from bit 7 down. -/
theorem sliceByte_eq_ofBoolListBE (q0 q1 q2 q3 : Byte) (p : Nat) :
    sliceByte q0 q1 q2 q3 p = BitVec.ofBoolListBE [q0.getLsbD p, q0.getLsbD p, q1.getLsbD p, q1.getLsbD p,
      q2.getLsbD p, q2.getLsbD p, q3.getLsbD p, q3.getLsbD p] := by
  refine BitVec.eq_of_getLsbD_eq fun j hj => ?_
  rw [getLsbD_sliceByte _ _ _ _ _ hj, BitVec.getLsbD_ofBoolListBE]
  interval_cases j <;> rfl

theorem sliceAt_eq_planeByte (s : State) (n p : Nat) : s.sliceAt n p = planeByte s n p :=
  sliceByte_eq_ofBoolListBE _ _ _ _ p

@[simp] theorem history_writeEga (s : State) (p : Fin 4) (a : Nat) (v : Byte) :
    (s.writeEga p a v).history = s.history ++ [.hwWriteEga p a v] :=
  State.history_of_events rfl

/-- Inside the loop, with PL the plane selected and the offset inside the plane, no access of SLICE is out of range and its byte is no free value. -/
theorem exec_slice {s : State} {q : Fin 4} (hidx : s.idx.toNat < 8000) (hpl : s.pl.toNat = q.val) (hsel : s.adapter.plane = some q)
    (hoff : s.pageAct.toNat + s.idx.toNat < s.cfg.egaPlaneSize) :
    exec .slice s = .next ((s.writeEga q (s.pageAct.toNat + s.idx.toNat) (planeByte s s.idx.toNat s.pl.toNat)).loopNext 7999) := by
  have hvalue : s.sliceValue s.idx.toNat = planeByte s s.idx.toNat s.pl.toNat := by
    rw [State.sliceValue_of_plane _ hpl, sliceAt_eq_planeByte, hpl]
  calc exec .slice s = s.sliceWrite s.idx.toNat :=
        (checked_of_lt _ (sliceSource_lt hidx (by decide))).trans (checked_of_lt _ hoff)
    _ = _ := by rw [State.sliceWrite_of_selected _ hsel, hvalue, planeOf_eq_some.mpr hpl]; rfl

/-- Settles O20: the step is the write of the plane byte into the selected plane and the end of a loop step. -/
theorem sliceWritesPlaneByte : Obligations.SliceWritesPlaneByte := by
  refine ⟨by decide, fun s q hidx hpl hsel hoff => ?_⟩
  refine ⟨_, exec_slice hidx hpl hsel hoff, ?history, ?planes, loopEnd_loopNext rfl rfl (by omega), rfl⟩
  case history => exact history_writeEga s _ _ _
  case planes => exact fun p a => EgaPlanes.read?_write _ _ _ _ _ _

/-! ## Page exchange and start address (42_ega_presenter.md R125 to R128) -/

theorem exec_swap (s : State) : exec .swap s = .next { s with pageVis := s.pageAct, pageAct := s.pageVis }.advance := rfl

/-- Settles O26: both pages take the values before the step. -/
theorem swapExchangesPages : Obligations.SwapExchangesPages :=
  ⟨by decide, fun s => ⟨_, exec_swap s, rfl, rfl, rfl, rfl⟩⟩

theorem exec_saddr (s : State) : exec .saddr s = .next { s with sa := s.pageVis }.advance := rfl

theorem exec_sahi (s : State) : exec .sahi s = .next (s.crtcWrite s.cfg.crtcIdxSah (s.sa.extractLsb' 8 8)).advance := rfl

theorem exec_salo (s : State) : exec .salo s = .next (s.crtcWrite s.cfg.crtcIdxSal (s.sa.extractLsb' 0 8)).advance := rfl

@[simp] theorem history_crtcWrite (s : State) (r v : Byte) : (s.crtcWrite r v).history = s.history ++ [.crtcWrite r v] :=
  State.history_of_events rfl

/-- A step that is one register write logs it, changes that register only and goes on. -/
theorem exec_crtcWrite {i : Instr} {s : State} {r v : Byte} (h : exec i s = .next (s.crtcWrite r v).advance) :
    ∃ t, exec i s = .next t ∧ t.history = s.history ++ [.crtcWrite r v]
      ∧ (∀ k, t.adapter.crtc.read? k = if k = r.toNat then some v else s.adapter.crtc.read? k)
      ∧ t.upc = s.upc + 1#8 ∧ t = { s with adapter := { s.adapter with crtc := t.adapter.crtc }, events := t.events, upc := t.upc } :=
  ⟨_, h, history_crtcWrite s r v, fun k => Memory.read?_write _ _ k v, rfl, rfl⟩

/-- Settles O27: SADDR copies the page offset, and SAHI and SALO are one register write each. -/
theorem startAddressIsWrittenInHalves : Obligations.StartAddressIsWrittenInHalves := by
  refine ⟨by decide, by decide, by decide, fun s => ⟨?saddr, ?sahi, ?salo⟩⟩
  case saddr => exact ⟨_, exec_saddr s, rfl, rfl, rfl⟩
  case sahi => exact exec_crtcWrite (exec_sahi s)
  case salo => exact exec_crtcWrite (exec_salo s)

end Sys2Proof.Claims
end

section
/-! PROOF. The statements of 43_detector.md about single micro-operations: the mode request (R140), the service's answers (R141, R143) and the branches on them (R142, R144), the register slots (R145), one step of each clearing loop (R155, R156), the binding (R157) and the report (R158). Before them the decoding of a micro-word with a legal argument (30_encoding.md R73, R74). -/

namespace Sys2Proof.Claims

open Sys2Proof.Machine

/-! ## Words with a legal argument (30_encoding.md R73, R74) -/

/-- An op whose row allows the argument decodes to the instruction the row builds. -/
theorem decodeMicro_of_legal {op : Byte} {legal : Byte → Bool} {build : Byte → Instr}
    (hr : argRow (op ++ 0#8) legal build ∈ microTable) {a : Byte} (ha : legal a = true) :
    decodeMicro (op ++ a) = .ok (build a) := by
  rw [decodeMicro_of_argRow hr, if_pos ha]

/-! ## SMODE (43_detector.md R140) -/

theorem decodeMicro_smode {a : Byte} (h : a.toNat ≤ 1) : decodeMicro (0x40#8 ++ a) = .ok (.smode a) :=
  decodeMicro_of_legal (legal := selectorLegal) (build := .smode) (List.getElem_mem (l := microTable) (n := 19) (by decide)) (decide_eq_true h)

theorem exec_smode {a : Byte} (h : a.toNat ≤ 1) (s : State) :
    exec (.smode a) s = .next (s.svcSetMode (selectedMode s.cfg a)).advance :=
  if_pos h

@[simp] theorem history_svcSetMode (s : State) (m : Byte) : (s.svcSetMode m).history = s.history ++ [.setMode m] :=
  State.history_of_events rfl

/-- Settles O30: the step is the mode request of the selector, which empties both hardware buffers. -/
theorem smodeRequestsMode : Obligations.SmodeRequestsMode := by
  refine fun a s h => ⟨decodeMicro_smode h, _, selectedMode s.cfg a, exec_smode h s, ?text, ?ega, history_svcSetMode s _,
    rfl, rfl, fun k => rfl, ?planes, rfl, rfl, rfl, rfl⟩
  case text => rintro rfl; rfl
  case ega => rintro rfl; rfl
  case planes => exact fun p k => congrArg (Memory.read? · k) (EgaPlanes.plane_unwritten p)

/-! ## QSW and QDS (43_detector.md R141, R143) -/

/-- A listed answer is the one given. -/
@[simp] theorem nextAnswer_cons (c : Byte) (rest : List Byte) (n : Nat) : nextAnswer (c :: rest) n = c := rfl

/-- A listed answer uses no free byte. -/
@[simp] theorem countAfterAnswer_cons (c : Byte) (rest : List Byte) (n : Nat) : countAfterAnswer (c :: rest) n = n := rfl

theorem exec_qsw (s : State) : exec .qsw s = .next s.askSwitches.advance := rfl

theorem exec_qds (s : State) : exec .qds s = .next s.askSettings.advance := rfl

@[simp] theorem history_askSwitches (s : State) : s.askSwitches.history = s.history ++ [.querySwitches s.askSwitches.sw] :=
  State.history_of_events rfl

@[simp] theorem history_askSettings (s : State) : s.askSettings.history = s.history ++ [.querySettings s.askSettings.ds] :=
  State.history_of_events rfl

/-- Settles O32: both queries take the head of their own list of answers, where it has one. -/
theorem queriesTakeAnswers : Obligations.QueriesTakeAnswers := by
  refine ⟨by decide, by decide, fun s => ⟨⟨_, exec_qsw s, ?switches, history_askSwitches s, rfl, rfl⟩,
    ⟨_, exec_qds s, ?settings, history_askSettings s, rfl, rfl⟩⟩⟩
  case switches => intro c rest h; simp [h]
  case settings => intro c rest h; simp [h]

/-! ## BEGA and BMONO (43_detector.md R142, R144) -/

/-- Every 8-bit argument of BEGA is a legal target. -/
theorem decodeMicro_bega (a : Byte) : decodeMicro (0x04#8 ++ a) = .ok (.bega a) :=
  decodeMicro_of_legal (legal := anyAddress) (build := .bega) (List.getElem_mem (l := microTable) (n := 4) (by decide)) rfl

/-- Every 8-bit argument of BMONO is a legal target. -/
theorem decodeMicro_bmono (a : Byte) : decodeMicro (0x05#8 ++ a) = .ok (.bmono a) :=
  decodeMicro_of_legal (legal := anyAddress) (build := .bmono) (List.getElem_mem (l := microTable) (n := 5) (by decide)) rfl

theorem exec_bega (a : Byte) (s : State) : exec (.bega a) s = .next (s.branch (isEgaCode s.cfg.egaCodes s.sw) a) := rfl

theorem exec_bmono (a : Byte) (s : State) : exec (.bmono a) s = .next (s.branch (isMono s.ds) a) := rfl

theorem isEgaCode_iff {codes : List Byte} {sw : Byte} : isEgaCode codes sw = true ↔ sw ∈ codes := List.contains_iff_mem

theorem isMono_iff {ds : Byte} : isMono ds = true ↔ ds = 0x07#8 := beq_iff_eq

/-- A step that is a branch on `p` goes to the target where `p` holds, on where it does not, and leaves the rest as it was. -/
theorem exec_branch {i : Instr} {s : State} {taken : Bool} {a : Byte} (h : exec i s = .next (s.branch taken a))
    {p : Prop} (hp : taken = true ↔ p) :
    ∃ t, exec i s = .next t ∧ (p → t.upc = a) ∧ (¬ p → t.upc = s.upc + 1#8) ∧ t = { s with upc := t.upc } :=
  ⟨_, h, fun htaken => if_pos (hp.mpr htaken), fun hnot => if_neg (mt hp.mp hnot), rfl⟩

/-- Settles O33: both are branches, on membership of SW and on one value of DS. -/
theorem detectorBranches : Obligations.DetectorBranches :=
  fun a s => ⟨decodeMicro_bega a, decodeMicro_bmono a, exec_branch (exec_bega a s) isEgaCode_iff, exec_branch (exec_bmono a s) isMono_iff⟩

/-! ## CRTCW (43_detector.md R145) -/

theorem decodeMicro_crtcw {a : Byte} (h : a.toNat ≤ 3) : decodeMicro (0x43#8 ++ a) = .ok (.crtcw a) :=
  decodeMicro_of_legal (legal := slotLegal) (build := .crtcw) (List.getElem_mem (l := microTable) (n := 22) (by decide)) (decide_eq_true h)

/-- At a slot number CRTCW is the write of that slot's value to that slot's register. -/
theorem exec_crtcw {a : Byte} {k : Fin 4} (h : a.toNat = k.val) (s : State) :
    exec (.crtcw a) s = .next (s.crtcWrite s.cfg.crtcIdx[k] s.cfg.crtcVal[k]).advance := by
  obtain ⟨_, hk⟩ := k
  cases h
  exact dif_pos hk

/-- Settles O34: the argument is the slot's number, and the step is one register write. -/
theorem crtcwWritesSlot : Obligations.CrtcwWritesSlot := by
  intro k s
  have hslot : (BitVec.ofNat 8 k.val).toNat = k.val := by
    rw [BitVec.toNat_ofNat, Nat.mod_eq_of_lt (by omega)]
  exact ⟨decodeMicro_crtcw (by omega), exec_crtcWrite (exec_crtcw hslot s)⟩

/-! ## STAMP and LFBCLR (43_detector.md R155, R156) -/

/-- Inside the loop the offset of STAMP is in the hardware buffer. -/
theorem exec_stamp {s : State} (h : s.idx.toNat < 16000) :
    exec .stamp s = .next ((s.writeCga s.idx.toNat (stampByte s.idx.toNat)).loopNext 15999) :=
  checked_of_lt _ h

theorem stampByte_of_even {k : Nat} (h : k % 2 = 0) : stampByte k = 0xDE#8 := if_pos h

theorem stampByte_of_odd {k : Nat} (h : k % 2 = 1) : stampByte k = 0x00#8 := if_neg (by omega)

/-- Settles O35: the step is the write of the stamped byte at IDX and the end of a loop step. -/
theorem stampAlternatesGlyphAndBlack : Obligations.StampAlternatesGlyphAndBlack := by
  refine ⟨by decide, fun s h => ⟨_, _, exec_stamp h, stampByte_of_even, stampByte_of_odd, ?history, ?written,
    loopEnd_loopNext rfl rfl (by omega), rfl⟩⟩
  case history => exact history_writeCga s _ _
  case written => exact fun a => Memory.read?_write _ _ a _

/-- Inside the loop the offset of LFBCLR is in the frame buffer. -/
theorem exec_lfbclr {s : State} (h : s.idx.toNat < 16000) :
    exec .lfbclr s = .next ((s.writeLfb s.idx.toNat 0x00#8).loopNext 15999) :=
  checked_of_lt _ h

/-- Settles O36: the step is the write of 0x00 at IDX and the end of a loop step. -/
theorem lfbclrZeroesCell : Obligations.LfbclrZeroesCell :=
  ⟨by decide, fun s h => ⟨_, exec_lfbclr h, fun a => Memory.read?_write _ _ a _, loopEnd_loopNext rfl rfl (by omega), rfl⟩⟩

/-! ## BIND (43_detector.md R157) -/

theorem decodeMicro_bind {a : Byte} (h : a = 1#8 ∨ a = 2#8) : decodeMicro (0x46#8 ++ a) = .ok (.bind a) := by
  have hlegal : bindingLegal a = true := by simpa [bindingLegal] using h
  exact decodeMicro_of_legal (legal := bindingLegal) (build := .bind) (List.getElem_mem (l := microTable) (n := 25) (by decide)) hlegal

theorem exec_bind {a : Byte} (h : a = 1#8 ∨ a = 2#8) (s : State) :
    exec (.bind a) s = .next { s with bind := bindingOf a }.advance :=
  if_pos h

/-- BIND's 2 bits hold a legal argument whole. -/
theorem toNat_bindingOf {a : Byte} (h : a = 1#8 ∨ a = 2#8) : (bindingOf a).toNat = a.toNat := by
  obtain rfl | rfl := h <;> rfl

theorem setWidth_bindingOf {a : Byte} (h : a = 1#8 ∨ a = 2#8) : (bindingOf a).setWidth 8 = a :=
  BitVec.eq_of_toNat_eq ((BitVec.toNat_setWidth_of_le (by decide)).trans (toNat_bindingOf h))

/-- Settles O37: the binding is the argument, and CLASS is the binding. -/
theorem bindBindsPresenter : Obligations.BindBindsPresenter :=
  fun _ s h => ⟨decodeMicro_bind h, _, exec_bind h s, toNat_bindingOf h, congrArg (BitVec.setWidth 16) (setWidth_bindingOf h), rfl, rfl⟩

/-! ## REPORT (43_detector.md R158) -/

theorem decodeMicro_report {a : Byte} (h : a.toNat ≤ 2) : decodeMicro (0x47#8 ++ a) = .ok (.report a) :=
  decodeMicro_of_legal (legal := classLegal) (build := .report) (List.getElem_mem (l := microTable) (n := 26) (by decide)) (decide_eq_true h)

theorem exec_report {a : Byte} (h : a.toNat ≤ 2) (s : State) : exec (.report a) s = .next (s.reportClass a).advance :=
  if_pos h

@[simp] theorem history_reportClass (s : State) (c : Byte) : (s.reportClass c).history = s.history ++ [.report c] :=
  State.history_of_events rfl

/-- Settles O38: of the flags the report sets CFGD, and UNSUP where the classification is 0. -/
theorem reportSetsFlags : Obligations.ReportSetsFlags := by
  refine fun a s h => ⟨decodeMicro_report h, _, exec_report h s, history_reportClass s a, rfl, ?unsupported, ?supported, rfl, rfl, rfl, rfl⟩
  case unsupported => rintro rfl; simp
  case supported => intro hclass; simp [hclass]

end Sys2Proof.Claims
end

section
/-! PROOF. The statements of 44_host_interface.md: IDLE's dispatch of a command byte (R170), DONE (R171) and the host's accesses to the LFB (R176, R177). Before them what a refusal does to FCODE (60_exceptions.md R194). -/

namespace Sys2Proof.Claims

open Sys2Proof.Machine

/-! ## FCODE of a refusal (60_exceptions.md R194) -/

theorem fcode_raise_of_no_fault {s : State} (r : Reason) (h : s.status.fault = false) : (s.raise r).fcode = r.code := by
  simp [h]

theorem fcode_raise_of_fault {s : State} (r : Reason) (h : s.status.fault = true) : (s.raise r).fcode = s.fcode :=
  if_pos h

/-! ## IDLE (44_host_interface.md R170) -/

theorem exec_idle {s : State} {c : Byte} (h : s.cmd = some c) :
    exec .idle s = .next ({ s with cmd := none }.dispatchCommand c) := by
  rw [show exec .idle s = execIdle s from rfl, execIdle, h]

theorem dispatchCommand_config_again {s : State} (h : s.status.cfgd = true) :
    s.dispatchCommand 0x01#8 = (s.emit (.cmd 0x01#8)).raise .reconfigure := by simp [State.dispatchCommand, h]

theorem dispatchCommand_present_unbound {s : State} (h1 : s.bind ≠ 1#2) (h2 : s.bind ≠ 2#2) :
    s.dispatchCommand 0x02#8 = (s.emit (.cmd 0x02#8)).raise .unboundPresent := by simp [State.dispatchCommand, h1, h2]

/-- A command whose condition holds is accepted at its own entry (30_encoding.md R70). -/
theorem dispatchCommand_accepts {s : State} {c : Byte}
    (h : (c = 0x01#8 ∧ s.status.cfgd = false) ∨ (c = 0x02#8 ∧ (s.bind = 1#2 ∨ s.bind = 2#2)) ∨ c = 0x03#8 ∨ c = 0x04#8) :
    ∃ entry, s.dispatchCommand c = (s.emit (.cmd c)).accept entry
      ∧ (c = 0x01#8 → entry = 0x20#8) ∧ (c = 0x02#8 → s.bind = 1#2 → entry = 0x08#8) ∧ (c = 0x02#8 → s.bind = 2#2 → entry = 0x10#8)
      ∧ (c = 0x03#8 → entry = 0x04#8) ∧ (c = 0x04#8 → entry = 0x3C#8) := by
  obtain ⟨rfl, hcfgd⟩ | ⟨rfl, hbind | hbind⟩ | rfl | rfl := h
  · exact ⟨_, dispatchCommand_config hcfgd, by simp⟩
  · exact ⟨_, dispatchCommand_present_cga hbind, by simp [hbind]⟩
  · exact ⟨_, dispatchCommand_present_ega hbind, by simp [hbind]⟩
  · exact ⟨_, dispatchCommand_waitv s, by simp⟩
  · exact ⟨_, dispatchCommand_restore s, by simp⟩

/-- A command whose condition fails, and a reserved byte, are refused with the reason of their line of R170. -/
theorem dispatchCommand_refuses {s : State} {c : Byte} {r : Reason}
    (h : (c = 0x01#8 ∧ s.status.cfgd = true ∧ r = .reconfigure)
      ∨ (c = 0x02#8 ∧ s.bind ≠ 1#2 ∧ s.bind ≠ 2#2 ∧ r = .unboundPresent)
      ∨ (c ∉ [0x01#8, 0x02#8, 0x03#8, 0x04#8] ∧ r = .illegalCommand)) :
    s.dispatchCommand c = (s.emit (.cmd c)).raise r := by
  obtain ⟨rfl, hcfgd, rfl⟩ | ⟨rfl, h1, h2, rfl⟩ | ⟨hreserved, rfl⟩ := h
  · exact dispatchCommand_config_again hcfgd
  · exact dispatchCommand_present_unbound h1 h2
  · exact dispatchCommand_of_reserved hreserved s

/-- Settles O41: IDLE takes the byte out of CMD and logs it, then accepts it at its entry or raises its reason. -/
theorem idleDispatchesCommand : Obligations.IdleDispatchesCommand := by
  refine fun s c hcmd => ⟨_, exec_idle hcmd, fun haccept => ?accepted, fun r hrefuse => ?refused⟩
  case accepted =>
    obtain ⟨entry, hdispatch, hentry⟩ := dispatchCommand_accepts (s := { s with cmd := none }) haccept
    obtain ⟨hconfig, hcga, hega, hwaitv, hrestore⟩ := hentry
    rw [hdispatch]
    exact ⟨history_emit { s with cmd := none } _, rfl, hconfig, hcga, hega, hwaitv, hrestore, rfl⟩
  case refused =>
    rw [dispatchCommand_refuses (s := { s with cmd := none }) hrefuse]
    refine ⟨?history, rfl, fcode_raise_of_no_fault r, fcode_raise_of_fault r, rfl⟩
    case history => simp [State.history]

/-! ## DONE (44_host_interface.md R171) -/

theorem exec_done (s : State) : exec .done s = .next s.complete := rfl

@[simp] theorem history_complete (s : State) : s.complete.history = s.history ++ [.done] :=
  State.history_of_events rfl

/-- Settles O43: the step is the completion of the command. -/
theorem doneCompletesCommand : Obligations.DoneCompletesCommand :=
  ⟨by decide, fun s => ⟨_, exec_done s, history_complete s, rfl, rfl, rfl⟩⟩

/-! ## Accesses to the LFB (44_host_interface.md R176, R177) -/

theorem lfbAccessRefusal_of_busy {s : State} (i : Nat) (h : s.status.busy = true) : lfbAccessRefusal i s = some .busyAccess :=
  if_pos h

theorem lfbAccessRefusal_of_ge {s : State} {i : Nat} (hidle : s.status.busy = false) (hi : 16000 ≤ i) :
    lfbAccessRefusal i s = some .outOfRange := by
  rw [lfbAccessRefusal, hidle]
  exact if_pos hi

theorem lfbAccessRefusal_of_lt {s : State} {i : Nat} (hidle : s.status.busy = false) (hi : i < 16000) :
    lfbAccessRefusal i s = none := by
  rw [lfbAccessRefusal, hidle]
  exact if_neg (Nat.not_le_of_lt hi)

theorem hostStep_lfbWrite_of_allowed {s : State} {i : Nat} (v : Byte) (h : lfbAccessRefusal i s = none) :
    hostStep (.lfbWrite i v) s = .next (s.writeLfb i v) := by
  rw [hostStep, hostLfbWrite, h]

theorem hostStep_lfbWrite_of_refused {s : State} {i : Nat} {r : Reason} (v : Byte) (h : lfbAccessRefusal i s = some r) :
    hostStep (.lfbWrite i v) s = .next (s.raise r) := by
  rw [hostStep, hostLfbWrite, h]

theorem hostStep_lfbRead_of_allowed {s : State} {i : Nat} (h : lfbAccessRefusal i s = none) :
    hostStep (.lfbRead i) s = .next (s.reply (some ((s.lfbAt i).setWidth 16))) := by
  rw [hostStep, hostLfbRead, h]

theorem hostStep_lfbRead_of_refused {s : State} {i : Nat} {r : Reason} (h : lfbAccessRefusal i s = some r) :
    hostStep (.lfbRead i) s = .next ((s.raise r).reply none) := by
  rw [hostStep, hostLfbRead, h]

/-- Settles O46: an access with no refusal is the store of the value or the reply of the cell, and a refused one is the raise of its reason. -/
theorem lfbAccess : Obligations.LfbAccess := by
  refine fun s i v => ⟨fun hidle hi => ?allowed, fun r code hreason => ?refused⟩
  case allowed =>
    have hnone := lfbAccessRefusal_of_lt hidle hi
    exact ⟨⟨_, hostStep_lfbWrite_of_allowed v hnone, fun a => Memory.read?_write _ _ a _, rfl⟩,
      s.lfbAt i, hostStep_lfbRead_of_allowed hnone, fun w hw => State.lfbAt_of_read hw⟩
  case refused =>
    have ⟨hsome, hcode⟩ : lfbAccessRefusal i s = some r ∧ r.code = code := by
      obtain ⟨hbusy, rfl, rfl⟩ | ⟨hidle, hi, rfl, rfl⟩ := hreason
      · exact ⟨lfbAccessRefusal_of_busy i hbusy, rfl⟩
      · exact ⟨lfbAccessRefusal_of_ge hidle hi, rfl⟩
    exact ⟨_, _, hostStep_lfbWrite_of_refused v hsome, hostStep_lfbRead_of_refused hsome, history_raise s r, rfl,
      fun hfirst => (fcode_raise_of_no_fault r hfirst).trans hcode, fcode_raise_of_fault r, rfl, rfl⟩

end Sys2Proof.Claims
end

section
/-! PROOF. The statement of 60_exceptions.md about the host actions turned away: BusyAccess before every other test (R198), UnboundPresent (R196), Reconfigure (R197) and IllegalCommand (R195). -/

namespace Sys2Proof.Claims

open Sys2Proof.Machine

/-! ## BusyAccess (60_exceptions.md R198) -/

/-- With BUSY = 1 a host write of CMD or an access to the LFB raises BusyAccess, and of the rest only the reply of a read is touched: it becomes none. -/
theorem hostStep_of_busy {s : State} {a : HostAction} (hbusy : s.status.busy = true)
    (h : (∃ c, a = .writeCmd c) ∨ (∃ i v, a = .lfbWrite i v) ∨ ∃ i, a = .lfbRead i) :
    ∃ reply, hostStep a s = .next { s.raise .busyAccess with env := { s.env with hostReply := reply } }
      ∧ ((∃ i, a = .lfbRead i) → reply = none) ∧ ((∀ i, a ≠ .lfbRead i) → reply = s.env.hostReply) := by
  obtain ⟨c, rfl⟩ | ⟨i, v, rfl⟩ | ⟨i, rfl⟩ := h
  · exact ⟨s.env.hostReply, (commandStep_eq c s).trans (hostWriteCmd_busy hbusy), by simp, fun _ => rfl⟩
  · exact ⟨s.env.hostReply, hostStep_lfbWrite_of_refused v (lfbAccessRefusal_of_busy i hbusy), by simp, fun _ => rfl⟩
  · exact ⟨none, hostStep_lfbRead_of_refused (lfbAccessRefusal_of_busy i hbusy), fun _ => rfl, fun hread => absurd rfl (hread i)⟩

/-! ## The statement: with BUSY = 0 IDLE refuses the command (60_exceptions.md R195, R196, R197) -/

/-- Settles O45: with BUSY = 1 every such access is the raise of BusyAccess, and with BUSY = 0 IDLE raises the reason of the command's line of R170. -/
theorem commandsAreRefused : Obligations.CommandsAreRefused := by
  refine fun s => ⟨fun hbusy a haccess => ?busy, fun hidle hbind => ?unbound, fun hidle hcfgd => ?again, fun hidle c hreserved => ?reserved⟩
  case busy =>
    obtain ⟨reply, hstep, hread, hwrite⟩ := hostStep_of_busy hbusy haccess
    exact ⟨_, hstep, history_raise s _, rfl, fcode_raise_of_no_fault _, fcode_raise_of_fault _, hread,
      fun h => congrArg (fun reply => { s.env with hostReply := reply }) (hwrite h), rfl⟩
  case unbound => exact hostWriteCmd_refused hidle (dispatchCommand_present_unbound (by simp [hbind]) (by simp [hbind]))
  case again => exact hostWriteCmd_refused hidle (dispatchCommand_config_again hcfgd)
  case reserved => exact (reservedCommandIsIllegal c s hreserved hidle).2

end Sys2Proof.Claims
end

section
/-! PROOF. The statement of 70_reset_and_hazards.md about the reset input (R220). -/

namespace Sys2Proof.Claims

open Sys2Proof.Machine

/-- A reset input takes the whole move: the step is the block's reset, whatever the state. -/
theorem step_of_reset {s : State} {rest : List Input} (hin : s.env.inputs = .reset :: rest) :
    step s = .next (s.withInputs rest).blockReset :=
  step_of_cons hin

theorem history_blockReset (s : State) : s.blockReset.history = [] :=
  (State.history_of_same (State.blockReset_events s)).trans (State.history_reset s.cfg)

/-- The flags at reset read as the word 0 (10_state.md R33). -/
theorem word_clear : Status.clear.word = 0x00#8 := by decide

/-- Settles O50: the step is the block's reset, which puts the machine of the same parameters right after reset around the old adapter and ROM. -/
theorem resetInput : Obligations.ResetInput := by
  intro s rest hin
  exact ⟨_, step_of_reset hin,
    State.blockReset_upc _, State.blockReset_idx _, State.blockReset_bind _, State.blockReset_pageVis _, State.blockReset_pageAct _,
    word_clear, State.blockReset_fcode _, history_blockReset _,
    State.blockReset_adapter _, State.blockReset_cfg _, State.blockReset_romPatch _, Memory.read?_nil, Memory.read?_nil⟩

end Sys2Proof.Claims
end


section
/-! PROOF. The statements of 30_encoding.md about codes: the round trips (R70 to R73) and the reserved micro-words (R74). Before them what a row of the table selects. -/

namespace Sys2Proof.Claims

open Sys2Proof.Machine

/-! ## What a row selects (30_encoding.md R72, R73) -/

/-- A micro-word is its two fields side by side. -/
theorem opField_append_argField (w : Word) : opField w ++ argField w = w := by
  refine BitVec.eq_of_getLsbD_eq fun i hi => ?_
  rw [BitVec.getLsbD_append, opField, argField, BitVec.getLsbD_extractLsb', BitVec.getLsbD_extractLsb']
  by_cases h : i < 8
  · simp [h]
  · simp [h, show i - 8 < 8 by omega, show 8 + (i - 8) = i by omega]

theorem opField_append (op a : Byte) : opField (op ++ a) = op := BitVec.extractLsb'_append_eq_left

theorem argField_append (op a : Byte) : argField (op ++ a) = a := BitVec.extractLsb'_append_eq_right

theorem toNat_opField (w : Word) : (opField w).toNat = w.toNat / 256 := by
  have := w.isLt
  rw [opField, BitVec.extractLsb'_toNat, Nat.shiftRight_eq_div_pow]
  omega

theorem toNat_argField (w : Word) : (argField w).toNat = w.toNat % 256 := by
  rw [argField, BitVec.extractLsb'_toNat, Nat.shiftRight_zero]

/-- A row without argument selects its own word only. -/
theorem plainRow_selects_iff {op : Byte} {i : Instr} {w : Word} :
    (plainRow (op ++ 0#8) i).selects w = true ↔ opField w = op ∧ argField w = 0#8 := by
  have hmask : w &&& 0xFFFF#16 = w := BitVec.and_allOnes
  rw [MicroRow.selects, beq_iff_eq, plainRow, hmask]
  constructor
  · rintro rfl
    exact ⟨opField_append op 0#8, argField_append op 0#8⟩
  · rintro ⟨hop, harg⟩
    rw [← opField_append_argField w, hop, harg]

/-- A row with an argument selects the words of its op. -/
theorem argRow_selects_iff {op : Byte} {legal : Byte → Bool} {build : Byte → Instr} (hr : argRow (op ++ 0#8) legal build ∈ microTable)
    {w : Word} : (argRow (op ++ 0#8) legal build).selects w = true ↔ opField w = op := by
  constructor
  · intro h
    exact (opField_eq_of_selects hr h).symm.trans (opField_append op 0#8)
  · rintro rfl
    rw [← opField_append_argField w, opField_append]
    exact argRow_selects _ _ _ _

/-- A micro-word decodes to `i` exactly when a row selects it, allows its argument and builds `i` from it. -/
theorem decodeMicro_eq_ok_iff {w : Word} {i : Instr} :
    decodeMicro w = .ok i ↔ ∃ r ∈ microTable, r.selects w = true ∧ r.legal (argField w) = true ∧ r.build (argField w) = i := by
  constructor
  · intro h
    rw [decodeMicro] at h
    split at h
    · cases h
    · next r hr =>
      split at h
      · next hlegal =>
        cases h
        exact ⟨r, List.mem_of_find?_eq_some hr, by simpa using List.find?_some hr, hlegal, rfl⟩
      · cases h
  · rintro ⟨r, hr, hsel, hlegal, rfl⟩
    rw [decodeMicro, find?_microTable_of_selects hr hsel]
    exact if_pos hlegal

/-! ## Decoding the code of an instruction (30_encoding.md R70, R73) -/

/-- Settles O1: a code without argument decodes by evaluation, and one with an argument by its row. -/
theorem decodeAfterEncode : Obligations.DecodeAfterEncode := by
  intro i hi
  cases i with
  | call a => exact decodeMicro_call a
  | bega a => exact decodeMicro_bega a
  | bmono a => exact decodeMicro_bmono a
  | plnext a => exact decodeMicro_plnext a
  | smode a => exact decodeMicro_smode (of_decide_eq_true hi)
  | crtcw a => exact decodeMicro_crtcw (of_decide_eq_true hi)
  | bind a => exact decodeMicro_bind (by simpa [Instr.wellFormed, bindingLegal] using hi)
  | report a => exact decodeMicro_report (of_decide_eq_true hi)
  | _ => decide

/-! ## The code of what a code decodes to (30_encoding.md R70, R73) -/

/-- The row builds only well-formed instructions, and the code of each is the word it was built from. -/
def RowSound (r : MicroRow) : Prop :=
  ∀ w : Word, r.selects w = true → r.legal (argField w) = true →
    encode (r.build (argField w)) = .micro w ∧ (r.build (argField w)).wellFormed = true

theorem rowSound_plain {op : Byte} {i : Instr} (hcode : encode i = .micro (microWord op 0#8)) (hwf : i.wellFormed = true) :
    RowSound (plainRow (op ++ 0#8) i) := by
  intro w hsel _
  obtain ⟨hop, harg⟩ := plainRow_selects_iff.mp hsel
  refine ⟨?_, hwf⟩
  rw [← opField_append_argField w, hop, harg]
  exact hcode

theorem rowSound_arg {op : Byte} {legal : Byte → Bool} {build : Byte → Instr} (hr : argRow (op ++ 0#8) legal build ∈ microTable)
    (hcode : ∀ a, encode (build a) = .micro (microWord op a)) (hwf : ∀ a, legal a = true → (build a).wellFormed = true) :
    RowSound (argRow (op ++ 0#8) legal build) := by
  intro w hsel hlegal
  refine ⟨(hcode _).trans ?_, hwf _ hlegal⟩
  rw [microWord, ← (argRow_selects_iff hr).mp hsel, opField_append_argField]

/-- The micro-operations without argument, by their op (30_encoding.md R73). -/
def plainCodes : List (Byte × Instr) :=
  [(0x00#8, .idle), (0x01#8, .done), (0x03#8, .ret), (0x10#8, .wvlo), (0x11#8, .wvhi), (0x12#8, .wde), (0x20#8, .pack), (0x21#8, .copy),
   (0x30#8, .plinit), (0x31#8, .psel), (0x32#8, .slice), (0x33#8, .swap), (0x34#8, .saddr), (0x35#8, .sahi), (0x36#8, .salo),
   (0x41#8, .qsw), (0x42#8, .qds), (0x44#8, .stamp), (0x45#8, .lfbclr)]

/-- The micro-operations with an argument: op, legal arguments, instruction (30_encoding.md R73, R74). -/
def argCodes : List (Byte × (Byte → Bool) × (Byte → Instr)) :=
  [(0x02#8, anyAddress, .call), (0x04#8, anyAddress, .bega), (0x05#8, anyAddress, .bmono), (0x06#8, anyAddress, .plnext),
   (0x40#8, selectorLegal, .smode), (0x43#8, slotLegal, .crtcw), (0x46#8, bindingLegal, .bind), (0x47#8, classLegal, .report)]

/-- The rows of the table are the rows of the two lists. -/
theorem mem_microTable_iff {r : MicroRow} : r ∈ microTable ↔
    (∃ p ∈ plainCodes, plainRow (p.1 ++ 0#8) p.2 = r) ∨ ∃ q ∈ argCodes, argRow (q.1 ++ 0#8) q.2.1 q.2.2 = r := by
  have hplain : microTable.filter (fun r => r.mask == 0xFFFF#16) = plainCodes.map fun p => plainRow (p.1 ++ 0#8) p.2 := rfl
  have harg : microTable.filter (fun r => !(r.mask == 0xFFFF#16)) = argCodes.map fun q => argRow (q.1 ++ 0#8) q.2.1 q.2.2 := rfl
  rw [← List.mem_map, ← List.mem_map, ← hplain, ← harg, ← List.mem_append]
  exact (List.filter_append_perm _ microTable).mem_iff.symm

/-- Every row of R73 is sound. -/
theorem rowSound_of_mem {r : MicroRow} (hr : r ∈ microTable) : RowSound r := by
  obtain ⟨p, hp, rfl⟩ | ⟨q, hq, rfl⟩ := mem_microTable_iff.mp hr
  · obtain ⟨hcode, hwf⟩ := (by decide : ∀ p ∈ plainCodes, encode p.2 = .micro (microWord p.1 0#8) ∧ p.2.wellFormed = true) p hp
    exact rowSound_plain hcode hwf
  · have hcodes : ∀ q ∈ argCodes, ∀ a, encode (q.2.2 a) = .micro (microWord q.1 a) ∧ (q.2.1 a = true → (q.2.2 a).wellFormed = true) := by
      simp [argCodes, encode, Instr.wellFormed]
    exact rowSound_arg hr (fun a => (hcodes q hq a).1) fun a => (hcodes q hq a).2

theorem encode_of_decodeCommand {b : Byte} {i : Instr} (h : decodeCommand b = .ok i) :
    encode i = .command b ∧ i.wellFormed = true := by
  rw [decodeCommand] at h
  split_ifs at h with h1 h2 h3 h4 <;> cases h <;> subst b <;> exact ⟨rfl, rfl⟩

/-- Settles O2: a command byte is one of four, and a micro-word is what its row builds the instruction from. -/
theorem encodeAfterDecode : Obligations.EncodeAfterDecode := by
  intro c i h
  cases c with
  | command b => exact encode_of_decodeCommand h
  | micro w =>
    obtain ⟨r, hr, hsel, hlegal, rfl⟩ := decodeMicro_eq_ok_iff.mp h
    exact rowSound_of_mem hr w hsel hlegal

/-! ## Reserved micro-words (30_encoding.md R74) -/

/-- A micro-word decodes exactly where a plain op has argument 0 or an op with an argument has a legal one. -/
theorem decodes_iff {w : Word} : (∃ i, decodeMicro w = .ok i) ↔
    (∃ p ∈ plainCodes, opField w = p.1 ∧ argField w = 0#8) ∨ ∃ q ∈ argCodes, opField w = q.1 ∧ q.2.1 (argField w) = true := by
  simp only [decodeMicro_eq_ok_iff]
  constructor
  · rintro ⟨-, r, hr, hsel, hlegal, -⟩
    obtain ⟨p, hp, rfl⟩ | ⟨q, hq, rfl⟩ := mem_microTable_iff.mp hr
    · exact .inl ⟨p, hp, plainRow_selects_iff.mp hsel⟩
    · exact .inr ⟨q, hq, (argRow_selects_iff hr).mp hsel, hlegal⟩
  · rintro (⟨p, hp, hword⟩ | ⟨q, hq, hop, hlegal⟩)
    · exact ⟨_, _, mem_microTable_iff.mpr (.inl ⟨p, hp, rfl⟩), plainRow_selects_iff.mpr hword, rfl, rfl⟩
    · have hr := mem_microTable_iff.mpr (.inr ⟨q, hq, rfl⟩)
      exact ⟨_, _, hr, (argRow_selects_iff hr).mpr hop, hlegal, rfl⟩

theorem plainCodes_ops : plainCodes.map (·.1.toNat) = plainOps := by decide

/-- R74's words say where no row accepts the fields. -/
theorem reserved_iff (op arg : Byte) : Reserved op.toNat arg.toNat ↔
    ¬ ((∃ p ∈ plainCodes, op = p.1 ∧ arg = 0#8) ∨ ∃ q ∈ argCodes, op = q.1 ∧ q.2.1 arg = true) := by
  have hplain : (∃ p ∈ plainCodes, op = p.1 ∧ arg = 0#8) ↔ op.toNat ∈ plainOps ∧ arg.toNat = 0 := by
    simp only [← plainCodes_ops, List.mem_map, BitVec.toNat_eq]
    exact ⟨fun ⟨p, hp, hop, harg⟩ => ⟨⟨p, hp, hop.symm⟩, harg⟩, fun ⟨⟨p, hp, hop⟩, harg⟩ => ⟨p, hp, hop.symm, harg⟩⟩
  rw [hplain]
  simp [Reserved, argCodes, anyAddress, selectorLegal, slotLegal, bindingLegal, classLegal, BitVec.toNat_eq, and_assoc]

/-- Settles O4: the decoder rejects what no row accepts, and that is what R74 reserves. -/
theorem rejectedIffReserved : Obligations.RejectedIffReserved := by
  intro w
  rw [← toNat_opField, ← toNat_argField, reserved_iff, ← decodes_iff]
  cases decodeMicro w <;> simp

/-! ## Words of the vectors, and the ROM (95_test_vectors.md section 2.1, 30_encoding.md R79) -/

/-- Settles O3: the words are closed, so the decoder's answers are evaluated. -/
theorem vectorWordsDecode : Obligations.VectorWordsDecode := by
  unfold Obligations.VectorWordsDecode
  decide

/-- The ROM and the list of R79 are the same words in the same order. -/
theorem romListing_eq : romListing = listedWords.map fun p => (p.1, BitVec.ofNat 16 p.2) := by decide

theorem listedWords_decode : ∀ p ∈ listedWords,
    romWord [] (BitVec.ofNat 8 p.1) = BitVec.ofNat 16 p.2 ∧ (decodeMicro (BitVec.ofNat 16 p.2)).toOption.isSome = true := by decide

/-- An address that is not listed holds the reserved word. -/
theorem romWord_of_not_listed {a : Byte} (h : a.toNat ∉ listedWords.map (·.1)) : romWord [] a = 0xFFFF#16 := by
  have hnone : romListing.lookup a.toNat = none := by
    rw [List.lookup_eq_none_iff, romListing_eq]
    rintro p hp
    obtain ⟨q, hq, rfl⟩ := List.mem_map.mp hp
    exact bne_iff_ne.mpr fun heq => h (List.mem_map.mpr ⟨q, hq, heq.symm⟩)
  rw [romWord, List.nil_append, hnone]
  rfl

theorem fetchWord_eq {s : State} (h : s.romPatch = []) : s.fetchWord = romWord [] s.upc := by rw [State.fetchWord, h]

/-- Settles O8: the listed words are looked up one by one, and the lookup of any other address finds none of them. -/
theorem romHoldsListedWords : Obligations.RomHoldsListedWords := by
  refine ⟨by decide, by decide, fun a w haw => ?listed, fun a ha => romWord_of_not_listed ha, fun s hs => fetchWord_eq hs⟩
  case listed =>
    obtain ⟨hword, hdecode⟩ := listedWords_decode (a, w) haw
    refine ⟨hword, ?_⟩
    cases hd : decodeMicro (BitVec.ofNat 16 w) with
    | ok i => exact ⟨i, rfl⟩
    | error e => simp [hd, Except.toOption] at hdecode

end Sys2Proof.Claims
end

section
/-! PROOF. The statements about one step as a whole: which instruction runs (30_encoding.md R80, log 13), and where the block is stuck (R74, log 14). -/

namespace Sys2Proof.Claims

open Sys2Proof.Machine

/-- A command byte that decodes runs as its instruction. -/
theorem commandStep_of_decode {c : Byte} {i : Instr} (h : decodeCommand c = .ok i) (s : State) : commandStep c s = exec i s := by
  rw [commandStep, h]

/-- Settles O6: each kind of move fetches its own code and runs what that decodes to; the levels are the free ones. -/
theorem stepRunsDecodedInstruction : Obligations.StepRunsDecodedInstruction := by
  refine fun s i rest => ⟨fun hin hcode => ⟨(Config.freeLines s.env.lineCount).1, (Config.freeLines s.env.lineCount).2, ?free⟩, fun hin hcode => ?block, fun c hin hcode => ?command⟩
  case free => exact (step_of_nil hin).trans (blockStep_of_decode hcode)
  case block => exact (step_of_cons hin).trans (blockStep_of_decode hcode)
  case command => exact (step_of_cons hin).trans (commandStep_of_decode hcode _)

/-- The block fetches the micro-word placed at UPC. -/
theorem fetchWord_placeMicroWord (s : State) (w : Word) :
    ({ s with romPatch := (s.upc.toNat, w) :: s.romPatch } : State).fetchWord = w := by
  simp [State.fetchWord, romWord]

theorem eq_ok_of_toOption {x : Except Reject Instr} {i : Instr} (h : x.toOption = some i) : x = .ok i := by
  cases x with
  | ok j => exact congrArg Except.ok (Option.some.inj h)
  | error e => cases h

/-- A placed command byte is the host's next write, and taking it leaves the moves that were there. -/
theorem step_withFetchWord_command (s : State) (w : Nat) : step (s.withFetchWord 8 w) = commandStep (BitVec.ofNat 8 w) s := rfl

/-- A placed micro-word comes with a move of the block, and taking that leaves the moves that were there. -/
theorem step_withFetchWord_micro (s : State) (w : Nat) :
    step (s.withFetchWord 16 w) = blockStep { s with romPatch := (s.upc.toNat, BitVec.ofNat 16 w) :: s.romPatch } := rfl

/-- Settles O7: what is placed is taken next and decodes as its row. -/
theorem placedInstructionRunsNext : Obligations.PlacedInstructionRunsNext := by
  refine fun s i w => ⟨fun hcode => ?command, fun hcode => ?micro⟩
  case command =>
    have hdecode : decodeCommand (BitVec.ofNat 8 w) = .ok i := eq_ok_of_toOption hcode
    rw [step_withFetchWord_command, commandStep_of_decode hdecode]
  case micro =>
    have hdecode : decodeMicro (BitVec.ofNat 16 w) = .ok i := eq_ok_of_toOption hcode
    rw [step_withFetchWord_micro, blockStep_of_decode]
    rwa [fetchWord_placeMicroWord]

/-- Settles O51: the decoder rejects the word fetched, and each of the four instructions tests its argument. -/
theorem reservedWordSticks : Obligations.ReservedWordSticks := by
  refine fun s a => ⟨fun hreserved => ?fetch, fun h => ?smode, fun h => ?crtcw, fun h1 h2 => ?bind, fun h => ?report⟩
  case fetch =>
    obtain ⟨e, he⟩ := (rejectedIffReserved s.fetchWord).mpr hreserved
    exact blockStep_of_reject he
  case smode => exact if_neg (Nat.not_le_of_lt h)
  case crtcw => exact dif_neg (Nat.not_lt_of_le h)
  case bind => exact if_neg (not_or_intro h1 h2)
  case report => exact if_neg (Nat.not_le_of_lt h)

end Sys2Proof.Claims
end


section
/-! PROOF. What an instruction can do to the state, said once: one constructor for each shape of effect. -/

namespace Sys2Proof.Claims

open Sys2Proof.Machine

/-- The instructions that run IDLE's dispatch of a command byte. -/
def dispatchers : List Instr := [.config, .present, .waitv, .restore, .idle]

/-- `Effect s i t`: instruction `i` can lead from `s` to `t`. A parameter that the rules compute from `s` is left open where only the frame matters. -/
inductive Effect (s : State) : Instr → State → Prop
  | waits : Effect s .idle s
  | accepts {i : Instr} (hi : i ∈ dispatchers) (c entry : Byte) : Effect s i (({ s with cmd := none }.emit (.cmd c)).accept entry)
  | refuses {i : Instr} (hi : i ∈ dispatchers) (c : Byte) (r : Reason) : Effect s i (({ s with cmd := none }.emit (.cmd c)).raise r)
  | turnsAway {i : Instr} (hi : i ∈ dispatchers) (r : Reason) : Effect s i (s.raise r)
  | done : Effect s .done s.complete
  | call (a : Byte) : Effect s (.call a) ({ s with ret := s.upc + 1#8 }.jump a)
  | ret : Effect s .ret (s.jump s.ret)
  | bega (a : Byte) (taken : Bool) : Effect s (.bega a) (s.branch taken a)
  | bmono (a : Byte) (taken : Bool) : Effect s (.bmono a) (s.branch taken a)
  | plnext (a : Byte) (pl : BitVec 3) (taken : Bool) : Effect s (.plnext a) ({ s with pl := pl }.branch taken a)
  | poll {i : Instr} (hi : i ∈ [.wvlo, .wvhi, .wde]) (stay : Bool) : Effect s i (s.statusRead.advanceUnless stay)
  | pack (hidx : s.idx.toNat < 8000) (v : Byte) (n : Nat) :
      Effect s .pack ({ s with stage := s.stage.write s.idx.toNat v, env := { s.env with freeCount := n } }.loopNext 7999)
  | copy (hidx : s.idx.toNat < 8000) (v : Byte) : Effect s .copy ((s.writeCga (2 * s.idx.toNat + 1) v).loopNext 7999)
  | plinit : Effect s .plinit { s with pl := 0#3 }.advance
  | psel (p : Fin 4) (used : Bool) : Effect s .psel ((s.planeSelect p).countFree used).advance
  | slice (q : Fin 4) (v : Byte) (used : Bool) (hoff : s.pageAct.toNat + s.idx.toNat < s.cfg.egaPlaneSize) :
      Effect s .slice (((s.writeEga q (s.pageAct.toNat + s.idx.toNat) v).countFree used).loopNext 7999)
  | swap : Effect s .swap { s with pageVis := s.pageAct, pageAct := s.pageVis }.advance
  | saddr : Effect s .saddr { s with sa := s.pageVis }.advance
  | sahi (r v : Byte) : Effect s .sahi (s.crtcWrite r v).advance
  | salo (r v : Byte) : Effect s .salo (s.crtcWrite r v).advance
  | smode (a m : Byte) : Effect s (.smode a) (s.svcSetMode m).advance
  | qsw : Effect s .qsw s.askSwitches.advance
  | qds : Effect s .qds s.askSettings.advance
  | crtcw (a r v : Byte) : Effect s (.crtcw a) (s.crtcWrite r v).advance
  | stamp (hidx : s.idx.toNat < 16000) : Effect s .stamp ((s.writeCga s.idx.toNat (stampByte s.idx.toNat)).loopNext 15999)
  | lfbclr (hidx : s.idx.toNat < 16000) : Effect s .lfbclr ((s.writeLfb s.idx.toNat 0x00#8).loopNext 15999)
  | bind (a : Byte) (b : BitVec 2) : Effect s (.bind a) { s with bind := b }.advance
  | report (a : Byte) : Effect s (.report a) (s.reportClass a).advance

/-- A dispatch accepts or refuses the byte, after its event. -/
theorem dispatchCommand_accepts_or_refuses (s : State) (c : Byte) :
    (∃ entry, s.dispatchCommand c = (s.emit (.cmd c)).accept entry) ∨ ∃ r, s.dispatchCommand c = (s.emit (.cmd c)).raise r := by
  obtain ⟨-, -, h⟩ | ⟨-, -, h⟩ | ⟨-, -, h⟩ | ⟨-, -, h⟩ | ⟨-, -, -, h⟩ | ⟨-, h⟩ | ⟨-, h⟩ | ⟨-, -, -, -, h⟩ :=
    State.dispatchCommand_cases s c
  exacts [.inl ⟨_, h⟩, .inr ⟨_, h⟩, .inl ⟨_, h⟩, .inl ⟨_, h⟩, .inr ⟨_, h⟩, .inl ⟨_, h⟩, .inl ⟨_, h⟩, .inr ⟨_, h⟩]

theorem effect_dispatchCommand {s : State} {i : Instr} (hi : i ∈ dispatchers) (c : Byte) :
    Effect s i ({ s with cmd := none }.dispatchCommand c) := by
  obtain ⟨entry, h⟩ | ⟨r, h⟩ := dispatchCommand_accepts_or_refuses { s with cmd := none } c
  · exact h ▸ .accepts hi c entry
  · exact h ▸ .refuses hi c r

/-- A host write to CMD does what each of the dispatching instructions can do. -/
theorem effect_hostWriteCmd {s t : State} {i : Instr} {c : Byte} (hi : i ∈ dispatchers) (h : hostWriteCmd c s = .next t) :
    Effect s i t := by
  cases hbusy : s.status.busy with
  | true => cases (hostWriteCmd_busy hbusy).symm.trans h; exact .turnsAway hi _
  | false => cases (hostWriteCmd_idle hbusy).symm.trans h; exact effect_dispatchCommand hi c

theorem effect_idle {s t : State} (h : exec .idle s = .next t) : Effect s .idle t := by
  cases hcmd : s.cmd with
  | none =>
    rw [show exec .idle s = .next s by rw [exec, execIdle, hcmd]] at h
    cases h
    exact .waits
  | some c => cases (exec_idle hcmd).symm.trans h; exact effect_dispatchCommand (by decide) c

theorem effect_pack {s t : State} (h : exec .pack s = .next t) : Effect s .pack t := by
  obtain ⟨-, h⟩ := checked_eq_next.mp h
  obtain ⟨hidx, h⟩ := checked_eq_next.mp h
  obtain ⟨v, n, hpair⟩ := State.packPair_cases s s.idx.toNat
  rw [hpair] at h
  cases h
  exact .pack hidx v n

theorem effect_copy {s t : State} (h : exec .copy s = .next t) : Effect s .copy t := by
  obtain ⟨hidx, h⟩ := checked_eq_next.mp h
  obtain ⟨-, h⟩ := checked_eq_next.mp h
  cases h
  exact .copy hidx _

theorem effect_slice {s t : State} (h : exec .slice s = .next t) : Effect s .slice t := by
  obtain ⟨-, h⟩ := checked_eq_next.mp h
  obtain ⟨hoff, h⟩ := checked_eq_next.mp h
  cases hsel : s.adapter.plane with
  | none => rw [State.sliceWrite, hsel] at h; cases h
  | some q =>
    cases (State.sliceWrite_of_selected _ hsel).symm.trans h
    exact .slice q _ _ hoff

/-- Everything an instruction can do, when it answers a next state. -/
theorem effect_of_exec {i : Instr} {s t : State} (h : exec i s = .next t) : Effect s i t := by
  cases i with
  | config => exact effect_hostWriteCmd (c := 0x01#8) (by decide) h
  | present => exact effect_hostWriteCmd (c := 0x02#8) (by decide) h
  | waitv => exact effect_hostWriteCmd (c := 0x03#8) (by decide) h
  | restore => exact effect_hostWriteCmd (c := 0x04#8) (by decide) h
  | idle => exact effect_idle h
  | done => cases h; exact .done
  | call a => cases h; exact .call a
  | ret => cases h; exact .ret
  | bega a => cases h; exact .bega a _
  | bmono a => cases h; exact .bmono a _
  | plnext a => cases h; exact .plnext a _ _
  | wvlo => cases h; exact .poll (by decide) _
  | wvhi => cases h; exact .poll (by decide) _
  | wde => cases h; exact .poll (by decide) _
  | pack => exact effect_pack h
  | copy => exact effect_copy h
  | plinit => cases h; exact .plinit
  | psel => cases h; exact .psel _ _
  | slice => exact effect_slice h
  | swap => cases h; exact .swap
  | saddr => cases h; exact .saddr
  | sahi => cases h; exact .sahi _ _
  | salo => cases h; exact .salo _ _
  | smode a =>
    rw [exec, execSmode] at h
    split at h <;> cases h
    exact .smode a _
  | qsw => cases h; exact .qsw
  | qds => cases h; exact .qds
  | crtcw a =>
    rw [exec, execCrtcw] at h
    split at h <;> cases h
    exact .crtcw a _ _
  | stamp =>
    obtain ⟨hidx, h⟩ := checked_eq_next.mp h
    cases h
    exact .stamp hidx
  | lfbclr =>
    obtain ⟨hidx, h⟩ := checked_eq_next.mp h
    cases h
    exact .lfbclr hidx
  | bind a =>
    rw [exec, execBind] at h
    split at h <;> cases h
    exact .bind a _
  | report a =>
    rw [exec, execReport] at h
    split at h <;> cases h
    exact .report a

/-! ## The moves of the three agents -/

/-- `Move u m t`: the move `m` can lead from `u` to `t`. Which host action or status byte it was is left open where only the outcome matters. -/
inductive Move (u : State) : Input → State → Prop
  | block {t : State} (i : Instr) (hcode : decodeMicro u.fetchWord = .ok i) (hexec : exec i u = .next t) : Move u .block t
  | lines (m : Input) (vr de : Bool) : Move u m (u.driveLines vr de)
  | command {t : State} (c : Byte) (hwrite : hostWriteCmd c u = .next t) : Move u (.host (.writeCmd c)) t
  | lfbWrite (m : Input) (i : Nat) (v : Byte) (hi : i < 16000) : Move u m (u.writeLfb i v)
  | refused (m : Input) (r : Reason) : Move u m (u.raise r)
  | refusedRead (m : Input) (r : Reason) : Move u m ((u.raise r).reply none)
  | replies (m : Input) (v : Option Word) : Move u m (u.reply v)
  | ignored (m : Input) : Move u m u
  | reset : Move u .reset u.blockReset

theorem blockStep_cases {u t : State} (h : blockStep u = .next t) : ∃ i, decodeMicro u.fetchWord = .ok i ∧ exec i u = .next t := by
  cases hcode : decodeMicro u.fetchWord with
  | ok i => exact ⟨i, rfl, (blockStep_of_decode hcode).symm.trans h⟩
  | error e => cases (blockStep_of_reject hcode).symm.trans h

theorem lt_of_lfbAccessRefusal {i : Nat} {s : State} (h : lfbAccessRefusal i s = none) : i < 16000 := by
  rw [lfbAccessRefusal] at h
  split_ifs at h with _ hi
  exact Nat.lt_of_not_le hi

theorem move_of_hostStep {u t : State} {a : HostAction} (h : hostStep a u = .next t) : Move u (.host a) t := by
  cases a with
  | writeCmd c => exact .command c ((commandStep_eq c u).symm.trans h)
  | lfbWrite i v =>
    cases hrefusal : lfbAccessRefusal i u with
    | some r => cases (hostStep_lfbWrite_of_refused v hrefusal).symm.trans h; exact .refused _ r
    | none => cases (hostStep_lfbWrite_of_allowed v hrefusal).symm.trans h; exact .lfbWrite _ i v (lt_of_lfbAccessRefusal hrefusal)
  | lfbRead i =>
    cases hrefusal : lfbAccessRefusal i u with
    | some r => cases (hostStep_lfbRead_of_refused hrefusal).symm.trans h; exact .refusedRead _ r
    | none => cases (hostStep_lfbRead_of_allowed hrefusal).symm.trans h; exact .replies _ _
  | readReg r => cases h; exact .replies _ _
  | writeReg r v => cases h; exact .ignored _

/-- Everything a listed move can do, when it answers a next state. -/
theorem move_of_agentStep {m : Input} {u t : State} (h : agentStep m u = .next t) : Move u m t := by
  cases m with
  | block =>
    obtain ⟨i, hcode, hexec⟩ := blockStep_cases h
    exact .block i hcode hexec
  | lines vr de => cases h; exact .lines _ vr de
  | statusByte b => cases h; exact .lines _ _ _
  | host a => exact move_of_hostStep h
  | reset => cases h; exact .reset

/-- A step is the first move listed, and where none is listed the block's instruction after free levels. -/
theorem move_of_step {s t : State} (h : step s = .next t) :
    (s.env.inputs = [] ∧ ∃ i, decodeMicro s.freeLines.fetchWord = .ok i ∧ exec i s.freeLines = .next t)
    ∨ ∃ m rest, s.env.inputs = m :: rest ∧ Move (s.withInputs rest) m t := by
  cases hin : s.env.inputs with
  | nil => exact .inl ⟨rfl, blockStep_cases ((step_of_nil hin).symm.trans h)⟩
  | cons m rest => exact .inr ⟨m, rest, rfl, move_of_agentStep ((step_of_cons hin).symm.trans h)⟩

end Sys2Proof.Claims
end


section
/-! PROOF. Who writes what (10_state.md R11 to R30), and what every step keeps: the memories in form (20_memory.md section 1), the page pair (10_state.md R22), the glyph bytes (R29), FAULT (R23) and the latched start address (R28). -/

namespace Sys2Proof.Claims

open Sys2Proof.Machine

/-! ## Writers -/

/-- A host action other than a write to CMD leaves all but the LFB, the refusal flags and the reply. -/
theorem hostStep_frame {a : HostAction} {s t : State} (h : hostStep a s = .next t) (hcmd : ∀ c, a ≠ .writeCmd c) :
    (t.lfb ≠ s.lfb → ∃ i v, a = .lfbWrite i v)
    ∧ t = { s with lfb := t.lfb, events := t.events, status := { s.status with fault := t.status.fault }, fcode := t.fcode,
                   env := { s.env with hostReply := t.env.hostReply } } := by
  cases a with
  | writeCmd c => exact absurd rfl (hcmd c)
  | lfbWrite i v =>
    cases hrefusal : lfbAccessRefusal i s with
    | some r => cases (hostStep_lfbWrite_of_refused v hrefusal).symm.trans h; exact ⟨fun _ => ⟨i, v, rfl⟩, rfl⟩
    | none => cases (hostStep_lfbWrite_of_allowed v hrefusal).symm.trans h; exact ⟨fun _ => ⟨i, v, rfl⟩, rfl⟩
  | lfbRead i =>
    cases hrefusal : lfbAccessRefusal i s with
    | some r => cases (hostStep_lfbRead_of_refused hrefusal).symm.trans h; exact ⟨fun hne => absurd rfl hne, rfl⟩
    | none => cases (hostStep_lfbRead_of_allowed hrefusal).symm.trans h; exact ⟨fun hne => absurd rfl hne, rfl⟩
  | readReg r => cases h; exact ⟨fun hne => absurd rfl hne, rfl⟩
  | writeReg r v => cases h; exact ⟨fun hne => absurd rfl hne, rfl⟩

theorem mem_dispatchers {i : Instr} : i ∈ dispatchers ↔ i = .config ∨ i = .present ∨ i = .waitv ∨ i = .restore ∨ i = .idle := by
  simp [dispatchers]

/-- Settles O59: each effect of an instruction leaves all but what it names. -/
theorem registersHaveOneWriter : Obligations.RegistersHaveOneWriter := by
  refine ⟨fun i s t h => ?_, fun a s t h hcmd => hostStep_frame h hcmd⟩
  cases effect_of_exec h with
  | accepts hi =>
    have hcases := mem_dispatchers.mp hi
    simp only [← or_assoc] at hcases
    simp [hcases, ← or_assoc]
  | refuses hi => simp [mem_dispatchers.mp hi]
  | turnsAway hi r => simp [mem_dispatchers.mp hi]
  | _ => simp

/-! ## What every step keeps -/

/-- A predicate that does not look at the model's own fields is kept by every step, where each move keeps it. -/
theorem step_keeps {P : State → Prop}
    (henv : ∀ s env, P s → P { s with env := env })
    (hlines : ∀ s vr de, P s → P (s.driveLines vr de))
    (hmove : ∀ s m t, P s → Move s m t → P t)
    {s t : State} (hs : P s) (h : step s = .next t) : P t := by
  obtain ⟨-, i, hcode, hexec⟩ | ⟨m, rest, -, hm⟩ := move_of_step h
  · exact hmove s.freeLines .block t (henv _ _ (hlines s _ _ hs)) (.block i hcode hexec)
  · exact hmove _ m t (henv s _ hs) hm

/-- The same, for a predicate that every effect of an instruction keeps. -/
theorem step_keeps_of_effect {P : State → Prop}
    (henv : ∀ s env, P s → P { s with env := env })
    (hlines : ∀ s vr de, P s → P (s.driveLines vr de))
    (heffect : ∀ s i t, P s → Effect s i t → P t)
    (hlfb : ∀ s i v, i < 16000 → P s → P (s.writeLfb i v))
    (hreset : ∀ s, P s → P s.blockReset)
    {s t : State} (hs : P s) (h : step s = .next t) : P t := by
  have hraise (s : State) (r : Reason) (hs : P s) : P (s.raise r) := heffect s .idle _ hs (.turnsAway (by decide) r)
  refine step_keeps henv hlines (fun u m t hu hm => ?_) hs h
  cases hm with
  | block i hcode hexec => exact heffect u i t hu (effect_of_exec hexec)
  | lines m vr de => exact hlines u vr de hu
  | command c hwrite => exact heffect u .idle t hu (effect_hostWriteCmd (by decide) hwrite)
  | lfbWrite m i v hi => exact hlfb u i v hi hu
  | refused m r => exact hraise u r hu
  | refusedRead m r => exact henv _ _ (hraise u r hu)
  | replies m v => exact henv u _ hu
  | ignored m => exact hu
  | reset => exact hreset u hu

/-! ## The memories (20_memory.md section 1) -/

theorem memSound_effect {s t : State} {i : Instr} (hs : s.memSound = true) (h : Effect s i t) : t.memSound = true := by
  cases h with
  | pack hidx v n =>
    rw [State.memSound_iff] at hs ⊢
    obtain ⟨hlfb, hstage, hadapter⟩ := hs
    exact ⟨hlfb, Memory.sound_write v hidx hstage, hadapter⟩
  | copy hidx v => exact (State.memSound_loopNext _ _).trans (State.memSound_writeCga v (show _ < 16000 by omega) hs)
  | slice q v used hoff => exact (State.memSound_loopNext _ _).trans ((State.memSound_countFree _ _).trans (State.memSound_writeEga q v hoff hs))
  | sahi r v => exact (State.memSound_advance _).trans (State.memSound_crtcWrite r v hs)
  | salo r v => exact (State.memSound_advance _).trans (State.memSound_crtcWrite r v hs)
  | crtcw a r v => exact (State.memSound_advance _).trans (State.memSound_crtcWrite r v hs)
  | smode a m => exact (State.memSound_advance _).trans (State.memSound_svcSetMode m hs)
  | stamp hidx => exact (State.memSound_loopNext _ _).trans (State.memSound_writeCga _ hidx hs)
  | lfbclr hidx => exact (State.memSound_loopNext _ _).trans (State.memSound_writeLfb _ hidx hs)
  | _ => exact hs

theorem memSound_blockReset {s : State} (hs : s.memSound = true) : s.blockReset.memSound = true := by
  rw [State.memSound_iff] at hs ⊢
  obtain ⟨-, -, hadapter⟩ := hs
  exact ⟨rfl, rfl, hadapter⟩

/-- Settles O56: each write of an effect is in its space, and a reset empties LFB and STAGE. -/
theorem stepKeepsMemoriesCanonical : Obligations.StepKeepsMemoriesCanonical := fun _ _ =>
  step_keeps_of_effect (fun _ _ hs => hs) (fun _ _ _ hs => hs) (fun _ _ _ => memSound_effect)
    (fun _ _ v hi => State.memSound_writeLfb v hi) (fun _ => memSound_blockReset)

/-! ## The page pair (10_state.md R22) -/

theorem pagePair_effect {s t : State} {i : Instr} (hs : s.pagePair) (h : Effect s i t) : t.pagePair := by
  cases h with
  | swap => exact hs.symm.imp And.symm And.symm
  | _ => exact hs

/-- Settles O57: SWAP exchanges the pair, a reset restores it, and nothing else writes it. -/
theorem stepKeepsPagePair : Obligations.StepKeepsPagePair := fun _ _ =>
  step_keeps_of_effect (fun _ _ hs => hs) (fun _ _ _ hs => hs) (fun _ _ _ => pagePair_effect)
    (fun _ _ _ _ hs => hs) (fun _ _ => .inl ⟨rfl, rfl⟩)

/-! ## The glyph bytes (10_state.md R29) -/

/-- A write to CGAHW keeps the glyphs if it writes GLYPH where it writes at an even offset. -/
theorem glyphsKept_writeCga {s : State} {off : Nat} {v : Byte} (hs : s.glyphsKept) (hv : off % 2 = 0 → v = Config.GLYPH) :
    (s.writeCga off v).glyphsKept := by
  intro i w hw
  rw [State.writeCga_adapter, Memory.read?_write] at hw
  split at hw
  · next hoff => exact (Option.some.inj hw).symm.trans (hv (by omega))
  · exact hs i w hw

theorem glyphsKept_effect {s t : State} {i : Instr} (hs : s.glyphsKept) (h : Effect s i t) : t.glyphsKept := by
  cases h with
  | copy hidx v => exact glyphsKept_writeCga hs (by omega)
  | stamp hidx => exact glyphsKept_writeCga hs stampByte_of_even
  | smode a m => exact fun _ _ hw => nomatch hw
  | _ => exact hs

/-- Settles O58: COPY writes at odd offsets, STAMP writes the glyph at even ones, and a mode request empties the buffer. -/
theorem stepKeepsGlyphBytes : Obligations.StepKeepsGlyphBytes := fun _ _ =>
  step_keeps_of_effect (fun _ _ hs => hs) (fun _ _ _ hs => hs) (fun _ _ _ => glyphsKept_effect) (fun _ _ _ _ hs => hs) (fun _ hs => hs)

/-! ## FAULT (10_state.md R23) -/

/-- FAULT = 1 with the code `c`. -/
def Faulted (c : Byte) (s : State) : Prop := s.status.fault = true ∧ s.fcode = c

theorem faulted_raise {c : Byte} {s : State} (r : Reason) (hs : Faulted c s) : Faulted c (s.raise r) :=
  ⟨rfl, (fcode_raise_of_fault r hs.1).trans hs.2⟩

theorem faulted_effect {c : Byte} {s t : State} {i : Instr} (hs : Faulted c s) (h : Effect s i t) : Faulted c t := by
  cases h with
  | refuses hi b r => exact faulted_raise r hs
  | turnsAway hi r => exact faulted_raise r hs
  | _ => exact hs

theorem faulted_move {c : Byte} {s t : State} {m : Input} (hs : Faulted c s) (hm : m ≠ .reset) (h : Move s m t) : Faulted c t := by
  cases h with
  | block i hcode hexec => exact faulted_effect hs (effect_of_exec hexec)
  | command b hwrite => exact faulted_effect hs (effect_hostWriteCmd (i := .idle) (by decide) hwrite)
  | refused m r => exact faulted_raise r hs
  | refusedRead m r => exact faulted_raise r hs
  | reset => exact absurd rfl hm
  | _ => exact hs

/-- Settles O60: a refusal keeps the first reason, and no other move but the reset writes the flag or its code. -/
theorem faultIsSticky : Obligations.FaultIsSticky := by
  intro s t h hfault hreset
  obtain ⟨-, i, -, hexec⟩ | ⟨m, rest, hin, hm⟩ := move_of_step h
  · exact faulted_effect (s := s.freeLines) ⟨hfault, rfl⟩ (effect_of_exec hexec)
  · exact faulted_move (s := s.withInputs rest) ⟨hfault, rfl⟩ (by simpa [hin] using hreset) hm

/-! ## The latched start address (10_state.md R28) -/

/-- Only a mode request writes SA_LATCHED, with its event; no instruction drives the lines. -/
theorem latch_effect {s t : State} {i : Instr} (h : Effect s i t) :
    (t.adapter.saLatched = s.adapter.saLatched ∧ t.adapter.vr = s.adapter.vr) ∨ ∃ m, t.history = s.history ++ [.setMode m] := by
  cases h with
  | smode a m => exact .inr ⟨m, history_svcSetMode s m⟩
  | _ => exact .inl ⟨rfl, rfl⟩

/-- The lines change SA_LATCHED at a rise of VR only, and then to the start address. -/
theorem latch_driveLines {s : State} {vr de : Bool} (h : (s.driveLines vr de).adapter.saLatched ≠ s.adapter.saLatched) :
    s.adapter.vr = false ∧ (s.driveLines vr de).adapter.vr = true ∧ (s.driveLines vr de).adapter.saLatched = s.startAddress := by
  rw [State.driveLines_adapter] at h ⊢
  cases hvr : s.adapter.vr <;> cases vr <;> simp_all

/-- A listed move changes SA_LATCHED by lines that rise, with no event, or by a mode request. -/
theorem latch_move {s t : State} {m : Input} (h : Move s m t) (hne : t.adapter.saLatched ≠ s.adapter.saLatched) :
    (s.adapter.vr = false ∧ t.adapter.vr = true ∧ t.adapter.saLatched = s.startAddress ∧ t.history = s.history)
    ∨ ∃ m, t.history = s.history ++ [.setMode m] := by
  cases h with
  | block i hcode hexec => exact .inr ((latch_effect (effect_of_exec hexec)).resolve_left fun hsame => hne hsame.1)
  | command c hwrite =>
    exact .inr ((latch_effect (effect_hostWriteCmd (i := .idle) (by decide) hwrite)).resolve_left fun hsame => hne hsame.1)
  | lines m vr de =>
    obtain ⟨hvr, hrise, hlatch⟩ := latch_driveLines hne
    exact .inl ⟨hvr, hrise, hlatch, rfl⟩
  | _ => exact absurd rfl hne

/-- Settles O29: with no move listed the free levels may rise before the block's move, and else the move is one of those. -/
theorem latchChangesOnlyAtRise : Obligations.LatchChangesOnlyAtRise := by
  intro s t h hne
  obtain ⟨hin, i, -, hexec⟩ | ⟨m, rest, hin, hm⟩ := move_of_step h
  · refine (latch_effect (effect_of_exec hexec)).imp_left fun ⟨hlatch, hvr⟩ => ?_
    rw [hlatch] at hne ⊢
    obtain ⟨hlow, hrise, haddr⟩ := latch_driveLines hne
    exact ⟨hlow, hvr.trans hrise, haddr, fun hlisted => absurd hin hlisted⟩
  · exact (latch_move (s := s.withInputs rest) hm hne).imp_left fun ⟨hlow, hrise, haddr, hhist⟩ => ⟨hlow, hrise, haddr, fun _ => hhist⟩

end Sys2Proof.Claims
end


section
/-! PROOF. The start address (10_state.md R28, 20_memory.md R47), refusals and the host's registers (60_exceptions.md R194, 10_state.md R25), the state at reset (10_state.md R33), and the operand values outside the spec's ranges (20_memory.md section 1). -/

namespace Sys2Proof.Claims

open Sys2Proof.Machine

/-! ## The start address (10_state.md R26, R28) -/

theorem startAddress_of_reads {s : State} {hi lo : Byte} (hhi : s.adapter.crtc.read? s.cfg.crtcIdxSah.toNat = some hi)
    (hlo : s.adapter.crtc.read? s.cfg.crtcIdxSal.toNat = some lo) : s.startAddress = hi ++ lo := by
  simp [State.startAddress, State.crtcAt, hhi, hlo]

/-- The two halves of a word side by side are the word (30_encoding.md R90). -/
theorem halves_append (w : Word) : w.extractLsb' 8 8 ++ w.extractLsb' 0 8 = w := opField_append_argField w

theorem saLatched_driveLines_of_rise {s : State} (de : Bool) (h : s.adapter.vr = false) :
    (s.driveLines true de).adapter.saLatched = s.startAddress := by
  simp [h]

/-- Settles O28: SAHI leaves the low half, SALO the high one, and the rise takes both halves as they are. -/
theorem riseLatchesStartAddress : Obligations.RiseLatchesStartAddress := by
  intro s t u de lo hne hvr hlo hsahi hsalo
  cases (exec_sahi s).symm.trans hsahi
  cases (exec_salo _).symm.trans hsalo
  have hne : s.cfg.crtcIdxSah.toNat ≠ s.cfg.crtcIdxSal.toNat := mt BitVec.eq_of_toNat_eq hne
  have hrise (v : State) (hv : v.adapter.vr = s.adapter.vr) : (v.driveLines true de).adapter.saLatched = v.startAddress :=
    saLatched_driveLines_of_rise de (hv.trans hvr)
  refine ⟨Eq.trans (hrise _ rfl) (startAddress_of_reads ?between_hi ?between_lo),
    Eq.trans (hrise _ rfl) ((startAddress_of_reads ?after_hi ?after_lo).trans (halves_append s.sa))⟩
  case between_hi => exact Memory.read?_write_self _ _ _
  case between_lo => exact (Memory.read?_write_other _ _ hne.symm).trans hlo
  case after_hi => exact (Memory.read?_write_other _ _ hne).trans (Memory.read?_write_self _ _ _)
  case after_lo => exact Memory.read?_write_self _ _ _

theorem crtcIdx_ne_of_valid {p : Config.Params} (h : p.valid = true) : p.crtcIdxSah ≠ p.crtcIdxSal := by
  simp only [Config.Params.valid, Bool.and_eq_true, bne_iff_ne] at h
  exact h.1.2

/-- Settles O31: the graphics mode request writes the halves of PAGE_A to two different registers, and latches PAGE_A. -/
theorem egaModeShowsPageA : Obligations.EgaModeShowsPageA := by
  intro s hvalid
  have hne : s.cfg.crtcIdxSah.toNat ≠ s.cfg.crtcIdxSal.toNat := mt BitVec.eq_of_toNat_eq (crtcIdx_ne_of_valid hvalid)
  have hmode : selectedMode s.cfg 1#8 = s.cfg.modeEga := rfl
  refine ⟨_, exec_smode (by decide) s, if_pos hmode, (startAddress_of_reads (hi := saHigh s.cfg.pageA) (lo := saLow s.cfg.pageA) ?_ ?_).trans (halves_append _)⟩
  · simp [hmode, startAddressRegs, Memory.read?_write_other _ _ hne]
  · simp [hmode, startAddressRegs]

/-! ## Refusals and host registers (60_exceptions.md R194, 10_state.md R23, R25) -/

/-- Settles O49: FCODE is the one field whose new value depends on FAULT. -/
theorem raiseKeepsFirstReason : Obligations.RaiseKeepsFirstReason :=
  fun s r => ⟨history_raise s r, rfl, fcode_raise_of_no_fault r, fcode_raise_of_fault r, rfl⟩

/-- Settles O42: with nothing in CMD the step of IDLE is the state itself. -/
theorem idleWaitsForHost : Obligations.IdleWaitsForHost := by
  intro s hcmd
  rw [exec, execIdle, hcmd]

/-- Bits 0 to 3 of STATUS (10_state.md R23). -/
theorem toNat_statusWord (t : Status) : t.word.toNat = t.busy.toNat + 2 * t.cfgd.toNat + 4 * t.unsup.toNat + 8 * t.fault.toNat := by
  obtain ⟨busy, cfgd, unsup, fault⟩ := t
  revert busy cfgd unsup fault
  decide

/-- Settles O47: a read replies with the register's content, a write does nothing. -/
theorem hostRegisterAccess : Obligations.HostRegisterAccess := by
  refine fun s r v => ⟨⟨_, hostRegValue r s, rfl, rfl, rfl, ?status, ?cls, ?fcode, ?pageVis, ?pageAct⟩, rfl⟩
  case status => rintro rfl; exact (BitVec.toNat_setWidth_of_le (by decide)).trans (toNat_statusWord s.status)
  case cls => rintro rfl; exact (BitVec.toNat_setWidth_of_le (by decide)).trans (BitVec.toNat_setWidth_of_le (by decide))
  case fcode => rintro rfl; exact BitVec.toNat_setWidth_of_le (by decide)
  case pageVis => rintro rfl; rfl
  case pageAct => rintro rfl; rfl

/-! ## The state at reset (10_state.md R33) -/

theorem inv_resetWith {p : Config.Params} (h : p.valid = true) : (State.resetWith p).Inv where
  params := h
  rom := rfl
  mem := rfl
  pages := .inl ⟨rfl, rfl⟩
  glyphs := fun _ _ hread => nomatch hread
  noCmd := rfl
  busy := rfl
  fault := rfl
  phase := rfl

/-- Settles O53: the reset state of valid parameters is idle, unbound and empty, and the default parameters are valid. -/
theorem resetMeetsInvariant : Obligations.ResetMeetsInvariant :=
  ⟨inv_resetWith (by decide), fun _ => inv_resetWith⟩

/-! ## Operand values outside the ranges (20_memory.md section 1; log 15, 16, 20, 21) -/

/-- A source pixel or the second pixel of a pair is beyond the LFB where IDX is beyond the loop. -/
theorem exec_pack_of_ge {s : State} (h : 8000 ≤ s.idx.toNat) : exec .pack s = .fault (.offsetOutOfRange .lfb (pairSecond s.idx.toNat)) :=
  checked_of_not_lt _ (show ¬ pairSecond s.idx.toNat < 16000 by rw [pairSecond]; omega)

theorem exec_copy_of_ge {s : State} (h : 8000 ≤ s.idx.toNat) : exec .copy s = .fault (.offsetOutOfRange .stage s.idx.toNat) :=
  checked_of_not_lt _ (Nat.not_lt_of_le h)

theorem exec_slice_of_ge {s : State} (h : 8000 ≤ s.idx.toNat) :
    exec .slice s = .fault (.offsetOutOfRange .lfb (sliceSource s.idx.toNat 3)) :=
  checked_of_not_lt _ (Nat.not_lt_of_le (sliceSource_ge h))

/-- Inside the loop only the plane offset can be out of range. -/
theorem exec_slice_of_lt {s : State} (h : s.idx.toNat < 8000) :
    exec .slice s = checked .egahw (s.sliceOffset s.idx.toNat) s (s.sliceWrite s.idx.toNat) :=
  checked_of_lt _ (sliceSource_lt h (by decide))

theorem sliceValue_eq_planeByte {s : State} (n : Nat) (h : s.pl.toNat < 4) : s.sliceValue n = planeByte s n s.pl.toNat :=
  (State.sliceValue_of_plane (p := ⟨s.pl.toNat, h⟩) n rfl).trans (sliceAt_eq_planeByte s n _)

/-- With a plane selected and the offset in the plane, SLICE writes its byte there, be PL a plane number or not. -/
theorem exec_slice_of_selected {s : State} {q : Fin 4} (hidx : s.idx.toNat < 8000) (hoff : s.sliceOffset s.idx.toNat < s.cfg.egaPlaneSize)
    (hsel : s.adapter.plane = some q) : exec .slice s
      = .next (((s.writeEga q (s.sliceOffset s.idx.toNat) (s.sliceValue s.idx.toNat)).countFree (planeOf s.pl).isNone).loopNext 7999) :=
  (exec_slice_of_lt hidx).trans ((checked_of_lt _ hoff).trans (State.sliceWrite_of_selected _ hsel))

/-- Settles O52: each stop is the first check that fails, and where all checks hold the instruction runs with a free value for PL's plane. -/
theorem outOfRangeOperands : Obligations.OutOfRangeOperands := by
  refine fun s a q => ⟨fun h => ⟨⟨_, _, exec_pack_of_ge h⟩, ⟨_, _, exec_copy_of_ge h⟩, ⟨_, _, exec_slice_of_ge h⟩⟩,
    fun h => ⟨checked_of_not_lt _ (Nat.not_lt_of_le h), checked_of_not_lt _ (Nat.not_lt_of_le h)⟩,
    fun h => ⟨?psel, ?plnext⟩,
    fun hidx hoff => (exec_slice_of_lt hidx).trans (checked_of_not_lt _ (Nat.not_lt_of_le hoff)),
    fun hidx hoff => ⟨fun hsel => ?unset, fun hsel => ?selected⟩⟩
  case psel => exact ⟨_, _, rfl, rfl, history_planeSelect s _, rfl, rfl⟩
  case plnext =>
    refine ⟨_, exec_plnext a s, ?_, rfl⟩
    simp [planesLeft_eq, show ¬ s.pl.toNat < 3 by omega]
  case unset => rw [exec_slice_of_lt hidx, checked_of_lt _ hoff, State.sliceWrite, hsel]
  case selected =>
    exact ⟨_, _, exec_slice_of_selected hidx hoff hsel, sliceValue_eq_planeByte _, history_writeEga s _ _ _,
      fun p k => EgaPlanes.read?_write _ _ _ _ _ _, loopEnd_loopNext rfl rfl (by omega), rfl⟩

end Sys2Proof.Claims
end


section
/-! PROOF. The micro-program of 30_encoding.md R79 address by address: what the block's step does where the phase holds, that the phase holds after it, and what it comes nearer to. -/

namespace Sys2Proof.Claims

open Sys2Proof.Machine

/-! ## What holds at each address (30_encoding.md R79) -/

/-- What the phase of the micro-program asks of the registers of `s` at the address `a`. -/
def phaseAt (a : Byte) (s : State) : Bool := ({ s with upc := a } : State).phaseOk

theorem phaseOk_of_upc {s : State} {a : Byte} (h : s.upc = a) : s.phaseOk = phaseAt a s := by subst h; rfl

theorem listed_of_phaseOk {s : State} (h : s.phaseOk = true) : s.upc.toNat ∈ listedWords.map (·.1) := by
  rw [State.phaseOk] at h
  split at h <;> simp_all [listedWords]

def idleAddresses : List Byte := [0x00#8, 0x04#8, 0x05#8, 0x3C#8, 0x3D#8]
def waitAddresses : List Byte := [0x01#8, 0x02#8, 0x03#8]
def egaAddresses : List Byte := [0x10#8, 0x14#8, 0x15#8, 0x16#8, 0x17#8, 0x18#8, 0x19#8, 0x1A#8, 0x34#8]
def configAddresses : List Byte :=
  [0x20#8, 0x21#8, 0x22#8, 0x23#8, 0x24#8, 0x25#8, 0x26#8, 0x27#8, 0x28#8, 0x29#8, 0x2C#8, 0x30#8, 0x31#8, 0x38#8]

theorem phaseAt_idle {a : Byte} (ha : a ∈ idleAddresses) (s : State) :
    phaseAt a s = true ↔ s.idxZero = true ∧ s.settled = true := by
  rw [← Bool.and_eq_true]
  simp only [idleAddresses, List.mem_cons, List.not_mem_nil, or_false] at ha
  obtain rfl | rfl | rfl | rfl | rfl := ha <;> exact Iff.rfl

theorem phaseAt_wait {a : Byte} (ha : a ∈ waitAddresses) (s : State) :
    phaseAt a s = true ↔ s.idxZero = true ∧ s.returnOk = true := by
  rw [← Bool.and_eq_true]
  simp only [waitAddresses, List.mem_cons, List.not_mem_nil, or_false] at ha
  obtain rfl | rfl | rfl := ha <;> exact Iff.rfl

theorem phaseAt_cgaLoop {a : Byte} (ha : a ∈ [0x08#8, 0x0A#8]) (s : State) :
    phaseAt a s = true ↔ s.idx.toNat < 8000 ∧ s.bound 1#2 = true := by
  rw [← decide_eq_true_eq (p := s.idx.toNat < 8000), ← Bool.and_eq_true]
  simp only [List.mem_cons, List.not_mem_nil, or_false] at ha
  obtain rfl | rfl := ha <;> exact Iff.rfl

theorem phaseAt_cga {a : Byte} (ha : a ∈ [0x09#8, 0x0B#8, 0x2E#8]) (s : State) :
    phaseAt a s = true ↔ s.idxZero = true ∧ s.bound 1#2 = true := by
  rw [← Bool.and_eq_true]
  simp only [List.mem_cons, List.not_mem_nil, or_false] at ha
  obtain rfl | rfl | rfl := ha <;> exact Iff.rfl

theorem phaseAt_plane {a : Byte} (ha : a ∈ [0x11#8, 0x13#8]) (s : State) :
    phaseAt a s = true ↔ s.idxZero = true ∧ s.bound 2#2 = true ∧ s.pl.toNat < 4 := by
  rw [← decide_eq_true_eq (p := s.pl.toNat < 4), ← and_assoc, ← Bool.and_eq_true, ← Bool.and_eq_true]
  simp only [List.mem_cons, List.not_mem_nil, or_false] at ha
  obtain rfl | rfl := ha <;> exact Iff.rfl

/-- At SLICE the plane selected is the one counted. -/
theorem phaseAt_slice (s : State) :
    phaseAt 0x12#8 s = true ↔ s.idx.toNat < 8000 ∧ s.bound 2#2 = true ∧ ∃ p : Fin 4, s.pl.toNat = p.val ∧ s.adapter.plane = some p := by
  have hphase : phaseAt 0x12#8 s = (s.idxBelow 8000 && s.bound 2#2 && s.planeCounted && s.planeSelected) := rfl
  rw [hphase]
  simp only [Bool.and_eq_true, State.idxBelow, State.planeCounted, State.planeSelected, decide_eq_true_eq, beq_iff_eq, and_assoc]
  refine and_congr_right fun _ => and_congr_right fun _ => ⟨fun ⟨_, hsel⟩ => ?_, fun ⟨p, hpl, hsel⟩ => ?_⟩
  · obtain ⟨p, hp, hval⟩ := Option.map_eq_some_iff.mp hsel
    exact ⟨p, hval.symm, hp⟩
  · rw [hpl, hsel]
    exact ⟨p.isLt, rfl⟩

theorem phaseAt_ega {a : Byte} (ha : a ∈ egaAddresses) (s : State) :
    phaseAt a s = true ↔ s.idxZero = true ∧ s.bound 2#2 = true := by
  rw [← Bool.and_eq_true]
  simp only [egaAddresses, List.mem_cons, List.not_mem_nil, or_false] at ha
  obtain rfl | rfl | rfl | rfl | rfl | rfl | rfl | rfl | rfl := ha <;> exact Iff.rfl

theorem phaseAt_config {a : Byte} (ha : a ∈ configAddresses) (s : State) :
    phaseAt a s = true ↔ s.idxZero = true ∧ s.configuring = true := by
  rw [← Bool.and_eq_true]
  simp only [configAddresses, List.mem_cons, List.not_mem_nil, or_false] at ha
  obtain rfl | rfl | rfl | rfl | rfl | rfl | rfl | rfl | rfl | rfl | rfl | rfl | rfl | rfl := ha <;> exact Iff.rfl

theorem phaseAt_configLoop {a : Byte} (ha : a ∈ [0x2A#8, 0x2B#8]) (s : State) :
    phaseAt a s = true ↔ s.idx.toNat < 16000 ∧ s.configuring = true := by
  rw [← decide_eq_true_eq (p := s.idx.toNat < 16000), ← Bool.and_eq_true]
  simp only [List.mem_cons, List.not_mem_nil, or_false] at ha
  obtain rfl | rfl := ha <;> exact Iff.rfl

theorem phaseAt_reportCga (s : State) : phaseAt 0x2D#8 s = true ↔ s.idxZero = true ∧ s.binding 1#2 = true := by
  rw [← Bool.and_eq_true]; exact Iff.rfl

theorem phaseAt_clearEga (s : State) : phaseAt 0x32#8 s = true ↔ s.idx.toNat < 16000 ∧ s.binding 2#2 = true := by
  rw [← decide_eq_true_eq (p := s.idx.toNat < 16000), ← Bool.and_eq_true]; exact Iff.rfl

theorem phaseAt_reportEga (s : State) : phaseAt 0x33#8 s = true ↔ s.idxZero = true ∧ s.binding 2#2 = true := by
  rw [← Bool.and_eq_true]; exact Iff.rfl

theorem phaseAt_unsupported (s : State) :
    phaseAt 0x39#8 s = true ↔ s.idxZero = true ∧ s.bind = 0#2 ∧ s.status.cfgd = true ∧ s.status.unsup = true := by
  rw [← beq_iff_eq (a := s.bind), ← and_assoc, ← and_assoc, ← Bool.and_eq_true, ← Bool.and_eq_true, ← Bool.and_eq_true]; exact Iff.rfl

end Sys2Proof.Claims
end


section
/-! PROOF. What the block's step does for the end of its command: a measure that every instruction of the micro-program lowers, but DONE, which is the end, and a poll that stays. -/

namespace Sys2Proof.Claims

open Sys2Proof.Machine

/-! ## A measure of the steps to go -/

/-- How far the address `a` is from the end of its command: the addresses to come, with wait_vsync just before its return address, and the plane loop once more for each plane to come. -/
def placeAt (a : Byte) (s : State) : Nat :=
  match a.toNat with
  | 0x00 => 0
  | 0x01 | 0x02 | 0x03 => 4 * (0x40 - s.ret.toNat) + (4 - a.toNat)
  | 0x10 => 4 * (0x40 - 0x10) + 64
  | 0x11 | 0x12 | 0x13 => 4 * (0x40 - a.toNat) + 16 * (4 - s.pl.toNat)
  | n => 4 * (0x40 - n)

/-- The place first, then the indices to come in its loop. -/
def rank (s : State) : Nat := 16385 * placeAt s.upc s + (16384 - s.idx.toNat)

theorem rank_lt_of_placeAt_lt {s t : State} {a b : Byte} (ha : s.upc = a) (hb : t.upc = b) (h : placeAt b t < placeAt a s) :
    rank t < rank s := by
  rw [rank, rank, ha, hb]
  omega

/-- Instruction `i` polls for a level that the lines `vr`, `de` do not have (40_sync.md R100 to R102). -/
def KeepsPolling (i : Instr) (vr de : Bool) : Prop :=
  (i = .wvlo ∧ vr = true) ∨ (i = .wvhi ∧ vr = false) ∨ (i = .wde ∧ de = true)

/-- What instruction `i` does for the end of the command: it is the end, it comes nearer, or it is a poll that stays. -/
inductive Stride (s : State) (i : Instr) (t : State) : Prop
  | ends (hi : i = .done) (ht : t = s.complete)
  | nears (hi : i ≠ .done) (hupc : t.upc ≠ 0x00#8) (hrank : rank t < rank s)
  | stays (hpoll : KeepsPolling i s.adapter.vr s.adapter.de) (hupc : s.upc ≠ 0x00#8) (ht : t = s.statusRead)

/-- The instruction at UPC completes, and the phase of the micro-program holds after it. -/
structure Proceeds (s : State) (i : Instr) (t : State) : Prop where
  code : decodeMicro (romWord [] s.upc) = .ok i
  inner : i ∉ dispatchers
  exec : exec i s = .next t
  phase : t.phaseOk = true
  stride : Stride s i t

/-! ## The shapes of a step -/

/-- A step from the address `a` to the address `b`. -/
theorem proceeds_to {s t : State} {i : Instr} {a : Byte} (b : Byte) (hupc : s.upc = a) (hcode : decodeMicro (romWord [] a) = .ok i)
    (hi : i ∉ dispatchers ∧ i ≠ .done) (hexec : exec i s = .next t) (hupc' : t.upc = b) (hb : b ≠ 0x00#8)
    (hphase : phaseAt b t = true) (hplace : placeAt b t < placeAt a s) : ∃ i t, Proceeds s i t :=
  ⟨i, t, hupc ▸ hcode, hi.1, hexec, (phaseOk_of_upc hupc').trans hphase, .nears hi.2 (hupc' ▸ hb) (rank_lt_of_placeAt_lt hupc hupc' hplace)⟩

/-- A step to the address after `a`. -/
theorem proceeds_advance {s u : State} {i : Instr} {a : Byte} (hupc : s.upc = a) (hcode : decodeMicro (romWord [] a) = .ok i)
    (hi : i ∉ dispatchers ∧ i ≠ .done) (hexec : exec i s = .next u.advance) (hu : u.upc = s.upc) (hb : a + 1#8 ≠ 0x00#8)
    (hphase : phaseAt (a + 1#8) u = true) (hplace : placeAt (a + 1#8) u < placeAt a s) : ∃ i t, Proceeds s i t :=
  proceeds_to (a + 1#8) hupc hcode hi hexec (by rw [State.advance_upc, hu, hupc]) hb hphase hplace

/-- The call of wait_vsync at `a`. -/
theorem proceeds_call {s : State} {a : Byte} (hupc : s.upc = a) (hcode : decodeMicro (romWord [] a) = .ok (.call 0x01#8))
    (hidx : s.idxZero = true) (hret : ({ s with ret := a + 1#8 } : State).returnOk = true)
    (hplace : placeAt 0x01#8 { s with ret := a + 1#8 } < placeAt a s) : ∃ i t, Proceeds s i t := by
  subst hupc
  exact proceeds_to 0x01#8 rfl hcode (by simp [dispatchers]) (exec_call _ s) rfl (by decide) ((phaseAt_wait (by decide) _).mpr ⟨hidx, hret⟩) hplace

/-- DONE at `a`. -/
theorem proceeds_done {s : State} {a : Byte} (hupc : s.upc = a) (hcode : decodeMicro (romWord [] a) = .ok .done)
    (hidx : s.idxZero = true) (hsettled : s.settled = true) : ∃ i t, Proceeds s i t :=
  ⟨.done, s.complete, hupc ▸ hcode, by decide, exec_done s,
    (phaseOk_of_upc rfl).trans ((phaseAt_idle (a := 0x00#8) (by decide) s.complete).mpr ⟨hidx, hsettled⟩), .ends rfl rfl⟩

/-- A poll at `a` stays where its line keeps it, and else goes on. -/
theorem proceeds_poll {s : State} {i : Instr} {a : Byte} {stay : Bool} (hupc : s.upc = a) (hcode : decodeMicro (romWord [] a) = .ok i)
    (hi : i ∉ dispatchers ∧ i ≠ .done) (hexec : exec i s = .next (s.statusRead.advanceUnless stay))
    (hstay : stay = true → KeepsPolling i s.adapter.vr s.adapter.de) (ha : a ≠ 0x00#8) (hb : a + 1#8 ≠ 0x00#8)
    (hphase : phaseAt a s = true) (hnext : phaseAt (a + 1#8) s = true) (hplace : placeAt (a + 1#8) s < placeAt a s) :
    ∃ i t, Proceeds s i t := by
  cases stay with
  | true => exact ⟨i, s.statusRead, hupc ▸ hcode, hi.1, hexec, (phaseOk_of_upc hupc).trans hphase, .stays (hstay rfl) (hupc ▸ ha) rfl⟩
  | false => exact proceeds_advance (u := s.statusRead) hupc hcode hi hexec rfl hb hnext hplace

/-- A loop step at `a` stays with the next index, or ends the loop with index 0 and goes on. -/
theorem proceeds_loop {s u : State} {i : Instr} {a : Byte} {last : Nat} (hupc : s.upc = a) (hcode : decodeMicro (romWord [] a) = .ok i)
    (hi : i ∉ dispatchers ∧ i ≠ .done) (hexec : exec i s = .next (u.loopNext last)) (hu : u.upc = s.upc) (hidx : u.idx = s.idx)
    (hin : s.idx.toNat ≤ last) (hlast : last < 16383) (ha : a ≠ 0x00#8) (hb : a + 1#8 ≠ 0x00#8)
    (hphase : ∀ k : BitVec 14, k.toNat ≤ last → phaseAt a { u with idx := k } = true) (hplace : placeAt a u = placeAt a s)
    (hnext : phaseAt (a + 1#8) { u with idx := 0#14 } = true) (hplace' : placeAt (a + 1#8) u < placeAt a s) : ∃ i t, Proceeds s i t := by
  have hu' : u.upc = a := hu.trans hupc
  by_cases hend : s.idx.toNat = last
  · have hloop : u.loopNext last = { u with idx := 0#14, upc := a + 1#8 } := by simp [State.loopNext, hidx, hend, hu']
    exact proceeds_to (a + 1#8) hupc hcode hi (hexec.trans (congrArg _ hloop)) rfl hb hnext hplace'
  · have hloop : u.loopNext last = { u with idx := s.idx + 1#14 } := by simp [State.loopNext, hidx, hend]
    have hk : (s.idx + 1#14).toNat = s.idx.toNat + 1 := by
      have hone : (1#14).toNat = 1 := rfl
      rw [BitVec.toNat_add, hone, Nat.mod_eq_of_lt (by omega)]
    have hrank : rank { u with idx := s.idx + 1#14 } < rank s := by
      have hsame : placeAt u.upc { u with idx := s.idx + 1#14 } = placeAt s.upc s := by rw [hu', hupc]; exact hplace
      rw [rank, rank, hsame, hk]
      omega
    exact ⟨i, _, hupc ▸ hcode, hi.1, hexec.trans (congrArg _ hloop),
      (phaseOk_of_upc (show ({ u with idx := s.idx + 1#14 } : State).upc = a from hu')).trans (hphase _ (by omega)),
      .nears hi.2 (hu'.symm ▸ ha) hrank⟩

end Sys2Proof.Claims
end


section
/-! PROOF. Every listed address of 30_encoding.md R79: where the phase holds, the block's step there proceeds. -/

namespace Sys2Proof.Claims

open Sys2Proof.Machine

/-! ## What the conditions of the phase say -/

theorem toNat_of_idxZero {s : State} (h : s.idxZero = true) : s.idx.toNat = 0 := congrArg BitVec.toNat (eq_of_beq h)

theorem settled_of_bound {s : State} {b : BitVec 2} (hb : b = 1#2 ∨ b = 2#2) (h : s.bound b = true) : s.settled = true := by
  obtain rfl | rfl := hb <;> simp_all [State.bound, State.settled]

theorem returnOk_of_idle {s : State} (h : s.settled = true) : ({ s with ret := 0x05#8 } : State).returnOk = true := by
  have h' : ({ s with ret := 0x05#8 } : State).settled = true := h
  simp [State.returnOk, h']

theorem returnOk_of_cga {s : State} (h : s.bound 1#2 = true) : ({ s with ret := 0x0A#8 } : State).returnOk = true := by
  have h' : ({ s with ret := 0x0A#8 } : State).bound 1#2 = true := h
  simp [State.returnOk, h']

theorem returnOk_of_ega {s : State} (h : s.bound 2#2 = true) : ({ s with ret := 0x1A#8 } : State).returnOk = true := by
  have h' : ({ s with ret := 0x1A#8 } : State).bound 2#2 = true := h
  simp [State.returnOk, h']

theorem returnOk_of_config {s : State} (h : s.configuring = true) : ({ s with ret := 0x2A#8 } : State).returnOk = true := by
  have h' : ({ s with ret := 0x2A#8 } : State).configuring = true := h
  simp [State.returnOk, h']

theorem returnOk_iff (s : State) : s.returnOk = true ↔
    (s.ret = 0x05#8 ∧ s.settled = true) ∨ (s.ret = 0x0A#8 ∧ s.bound 1#2 = true) ∨ (s.ret = 0x1A#8 ∧ s.bound 2#2 = true)
    ∨ (s.ret = 0x2A#8 ∧ s.configuring = true) := by
  simp [State.returnOk, or_assoc]

/-! ## wait_vsync and WAITV -/

theorem proceeds_ret {s : State} (hupc : s.upc = 0x03#8) (hidx : s.idxZero = true) (hret : s.returnOk = true) : ∃ i t, Proceeds s i t := by
  have hback (b : Byte) (hb : s.ret = b) (hne : b ≠ 0x00#8) (hphase : phaseAt b s = true) (hplace : placeAt b s < placeAt 0x03#8 s) :
      ∃ i t, Proceeds s i t :=
    proceeds_to (i := .ret) b hupc (by decide) (by decide) (exec_ret s) hb hne hphase hplace
  have hidx0 := toNat_of_idxZero hidx
  obtain ⟨hr, h⟩ | ⟨hr, h⟩ | ⟨hr, h⟩ | ⟨hr, h⟩ := (returnOk_iff s).mp hret
  · exact hback _ hr (by decide) ((phaseAt_idle (by decide) s).mpr ⟨hidx, h⟩) (by simp [placeAt, hr])
  · exact hback _ hr (by decide) ((phaseAt_cgaLoop (by decide) s).mpr ⟨by omega, h⟩) (by simp [placeAt, hr])
  · exact hback _ hr (by decide) ((phaseAt_ega (by decide) s).mpr ⟨hidx, h⟩) (by simp [placeAt, hr])
  · exact hback _ hr (by decide) ((phaseAt_configLoop (by decide) s).mpr ⟨by omega, h⟩) (by simp [placeAt, hr])

theorem proceeds_wait {s : State} {a : Byte} (ha : a ∈ waitAddresses) (hupc : s.upc = a) (h : phaseAt a s = true) : ∃ i t, Proceeds s i t := by
  obtain ⟨hidx, hret⟩ := (phaseAt_wait ha s).mp h
  have hwait {b : Byte} (hb : b ∈ waitAddresses) : phaseAt b s = true := (phaseAt_wait hb s).mpr ⟨hidx, hret⟩
  simp only [waitAddresses, List.mem_cons, List.not_mem_nil, or_false] at ha
  obtain rfl | rfl | rfl := ha
  · exact proceeds_poll (i := .wvlo) hupc (by decide) (by decide) rfl (fun hstay => .inl ⟨rfl, hstay⟩) (by decide) (by decide)
      h (hwait (by decide)) (by simp [placeAt])
  · exact proceeds_poll (i := .wvhi) hupc (by decide) (by decide) rfl (fun hstay => .inr (.inl ⟨rfl, by simpa [wvhiStays] using hstay⟩))
      (by decide) (by decide) h (hwait (by decide)) (by simp [placeAt])
  · exact proceeds_ret hupc hidx hret

theorem proceeds_idle {s : State} {a : Byte} (ha : a ∈ idleAddresses) (ha0 : a ≠ 0x00#8) (hupc : s.upc = a) (h : phaseAt a s = true) :
    ∃ i t, Proceeds s i t := by
  obtain ⟨hidx, hsettled⟩ := (phaseAt_idle ha s).mp h
  simp only [idleAddresses, List.mem_cons, List.not_mem_nil, or_false] at ha
  obtain rfl | rfl | rfl | rfl | rfl := ha
  · exact absurd rfl ha0
  · exact proceeds_call hupc (by decide) hidx (returnOk_of_idle hsettled) (by simp [placeAt])
  · exact proceeds_done hupc (by decide) hidx hsettled
  · exact proceeds_advance (i := .smode 0#8) hupc (by decide) (by decide) (exec_smode (by decide) s) rfl (by decide)
      ((phaseAt_idle (by decide) _).mpr ⟨hidx, hsettled⟩) (by simp [placeAt])
  · exact proceeds_done hupc (by decide) hidx hsettled

/-! ## The CGA presenter -/

theorem proceeds_cgaLoop {s : State} {a : Byte} (ha : a ∈ [0x08#8, 0x0A#8]) (hupc : s.upc = a) (h : phaseAt a s = true) :
    ∃ i t, Proceeds s i t := by
  obtain ⟨hidx, hbound⟩ := (phaseAt_cgaLoop ha s).mp h
  simp only [List.mem_cons, List.not_mem_nil, or_false] at ha
  obtain rfl | rfl := ha
  · obtain ⟨v, n, hpair⟩ := State.packPair_cases s s.idx.toNat
    have hexec := exec_pack hidx
    rw [hpair] at hexec
    exact proceeds_loop hupc (by decide) (by decide) hexec rfl rfl (by omega) (by decide) (by decide) (by decide)
      (fun k hk => (phaseAt_cgaLoop (by decide) _).mpr ⟨Nat.lt_succ_of_le hk, hbound⟩) rfl
      ((phaseAt_cga (by decide) _).mpr ⟨rfl, hbound⟩) (by simp [placeAt])
  · exact proceeds_loop hupc (by decide) (by decide) (exec_copy hidx) rfl rfl (by omega) (by decide) (by decide) (by decide)
      (fun k hk => (phaseAt_cgaLoop (by decide) _).mpr ⟨Nat.lt_succ_of_le hk, hbound⟩) rfl
      ((phaseAt_cga (by decide) _).mpr ⟨rfl, hbound⟩) (by simp [placeAt])

theorem proceeds_cga {s : State} {a : Byte} (ha : a ∈ [0x09#8, 0x0B#8, 0x2E#8]) (hupc : s.upc = a) (h : phaseAt a s = true) :
    ∃ i t, Proceeds s i t := by
  obtain ⟨hidx, hbound⟩ := (phaseAt_cga ha s).mp h
  have hsettled := settled_of_bound (.inl rfl) hbound
  simp only [List.mem_cons, List.not_mem_nil, or_false] at ha
  obtain rfl | rfl | rfl := ha
  · exact proceeds_call hupc (by decide) hidx (returnOk_of_cga hbound) (by simp [placeAt])
  · exact proceeds_done hupc (by decide) hidx hsettled
  · exact proceeds_done hupc (by decide) hidx hsettled

/-! ## The EGA presenter -/

theorem proceeds_plane {s : State} {a : Byte} (ha : a ∈ [0x11#8, 0x13#8]) (hupc : s.upc = a) (h : phaseAt a s = true) :
    ∃ i t, Proceeds s i t := by
  obtain ⟨hidx, hbound, hpl⟩ := (phaseAt_plane ha s).mp h
  have hidx0 := toNat_of_idxZero hidx
  simp only [List.mem_cons, List.not_mem_nil, or_false] at ha
  obtain rfl | rfl := ha
  · have hslice : phaseAt 0x12#8 (s.planeSelect ⟨s.pl.toNat, hpl⟩) = true :=
      (phaseAt_slice _).mpr ⟨hidx0 ▸ (by decide : 0 < 8000), hbound, ⟨s.pl.toNat, hpl⟩, rfl, rfl⟩
    exact proceeds_advance hupc (by decide) (by decide) (exec_psel (p := ⟨s.pl.toNat, hpl⟩) rfl) rfl (by decide) hslice (by simp [placeAt])
  · have hnext := toNat_ofNat_nextPlane (pl := s.pl) (by omega)
    by_cases hlast : s.pl.toNat = 3
    · refine proceeds_to (i := .plnext 0x11#8) 0x14#8 hupc (by decide) (by decide) (exec_plnext _ s) ?_ (by decide)
        ((phaseAt_ega (by decide) _).mpr ⟨hidx, hbound⟩) (by simp [placeAt, hlast])
      simp [planesLeft_eq, hlast, hupc]
    · refine proceeds_to (i := .plnext 0x11#8) 0x11#8 hupc (by decide) (by decide) (exec_plnext _ s) ?_ (by decide)
        ((phaseAt_plane (by decide) _).mpr ⟨hidx, hbound, ?_⟩) ?_
      · simp [planesLeft_eq, show s.pl.toNat < 3 by omega]
      · exact hnext.symm ▸ (by omega)
      · simp only [placeAt, State.branch_pl, hnext]
        simp
        omega

theorem proceeds_slice {s : State} (hfits : s.pageAct.toNat + 8000 ≤ s.cfg.egaPlaneSize) (hupc : s.upc = 0x12#8)
    (h : phaseAt 0x12#8 s = true) : ∃ i t, Proceeds s i t := by
  obtain ⟨hidx, hbound, p, hpl, hsel⟩ := (phaseAt_slice s).mp h
  have hplane : s.pl.toNat < 4 := hpl ▸ p.isLt
  exact proceeds_loop hupc (by decide) (by decide) (exec_slice hidx hpl hsel (by omega)) rfl rfl (by omega) (by decide) (by decide) (by decide)
    (fun k hk => (phaseAt_slice _).mpr ⟨Nat.lt_succ_of_le hk, hbound, p, hpl, hsel⟩) rfl
    ((phaseAt_plane (by decide) _).mpr ⟨rfl, hbound, hplane⟩) (by simp [placeAt])

theorem proceeds_ega {s : State} {a : Byte} (ha : a ∈ egaAddresses) (hupc : s.upc = a) (h : phaseAt a s = true) :
    ∃ i t, Proceeds s i t := by
  obtain ⟨hidx, hbound⟩ := (phaseAt_ega ha s).mp h
  have hega {b : Byte} (hb : b ∈ egaAddresses) (u : State) (hu : u.idxZero = true) (hu' : u.bound 2#2 = true) : phaseAt b u = true :=
    (phaseAt_ega hb u).mpr ⟨hu, hu'⟩
  have hsettled := settled_of_bound (.inr rfl) hbound
  simp only [egaAddresses, List.mem_cons, List.not_mem_nil, or_false] at ha
  obtain rfl | rfl | rfl | rfl | rfl | rfl | rfl | rfl | rfl := ha
  · exact proceeds_advance hupc (by decide) (by decide) (exec_plinit s) rfl (by decide)
      ((phaseAt_plane (by decide) _).mpr ⟨hidx, hbound, (by decide : 0 < 4)⟩) (by simp [placeAt])
  · exact proceeds_advance hupc (by decide) (by decide) (exec_swap s) rfl (by decide) (hega (by decide) _ hidx hbound) (by simp [placeAt])
  · exact proceeds_advance hupc (by decide) (by decide) (exec_saddr s) rfl (by decide) (hega (by decide) _ hidx hbound) (by simp [placeAt])
  · exact proceeds_poll (i := .wde) hupc (by decide) (by decide) rfl (fun hstay => .inr (.inr ⟨rfl, hstay⟩)) (by decide) (by decide)
      h (hega (by decide) _ hidx hbound) (by simp [placeAt])
  · exact proceeds_advance hupc (by decide) (by decide) (exec_sahi s) rfl (by decide) (hega (by decide) _ hidx hbound) (by simp [placeAt])
  · exact proceeds_advance hupc (by decide) (by decide) (exec_salo s) rfl (by decide) (hega (by decide) _ hidx hbound) (by simp [placeAt])
  · exact proceeds_call hupc (by decide) hidx (returnOk_of_ega hbound) (by simp [placeAt])
  · exact proceeds_done hupc (by decide) hidx hsettled
  · exact proceeds_done hupc (by decide) hidx hsettled

/-! ## The detector -/

/-- A branch from `a` to `b` where it is taken, else to the next address. -/
theorem proceeds_branch {s : State} {i : Instr} {a b : Byte} {taken : Bool} (hupc : s.upc = a) (hcode : decodeMicro (romWord [] a) = .ok i)
    (hi : i ∉ dispatchers ∧ i ≠ .done) (hexec : exec i s = .next (s.branch taken b)) (hb : b ≠ 0x00#8) (ha : a + 1#8 ≠ 0x00#8)
    (hphase : phaseAt b s = true ∧ phaseAt (a + 1#8) s = true)
    (hplace : placeAt b s < placeAt a s ∧ placeAt (a + 1#8) s < placeAt a s) : ∃ i t, Proceeds s i t := by
  obtain ⟨hphaseb, hphasea⟩ := hphase
  obtain ⟨hplaceb, hplacea⟩ := hplace
  cases taken with
  | true => exact proceeds_to b hupc hcode hi hexec rfl hb hphaseb hplaceb
  | false => exact proceeds_advance (u := s) hupc hcode hi hexec rfl ha hphasea hplacea

theorem configuring_iff (s : State) : s.configuring = true ↔ s.bind = 0#2 ∧ s.status.cfgd = false ∧ s.status.unsup = false := by
  simp [State.configuring, and_assoc]

theorem binding_iff (s : State) (b : BitVec 2) : s.binding b = true ↔ s.bind = b ∧ s.status.cfgd = false ∧ s.status.unsup = false := by
  simp [State.binding, and_assoc]

theorem bound_iff (s : State) (b : BitVec 2) : s.bound b = true ↔ s.bind = b ∧ s.status.cfgd = true ∧ s.status.unsup = false := by
  simp [State.bound, and_assoc]

theorem settled_of_unsupported {s : State} (hbind : s.bind = 0#2) (hcfgd : s.status.cfgd = true) (hunsup : s.status.unsup = true) :
    s.settled = true := by
  simp [State.settled, hbind, hcfgd, hunsup]

/-- A report of a class other than 0 makes the binding a bound presenter. -/
theorem bound_reportClass {s : State} {b : BitVec 2} {c : Byte} (h : s.binding b = true) (hc : c ≠ 0x00#8) :
    (s.reportClass c).bound b = true := by
  obtain ⟨hbind, -, hunsup⟩ := (binding_iff s b).mp h
  exact (bound_iff _ b).mpr ⟨hbind, rfl, by simp [hunsup, hc]⟩

theorem binding_of_configuring {s : State} (b : BitVec 2) (h : s.configuring = true) : ({ s with bind := b } : State).binding b = true := by
  obtain ⟨-, hflags⟩ := (configuring_iff s).mp h
  exact (binding_iff _ b).mpr ⟨rfl, hflags⟩

theorem proceeds_config {s : State} {a : Byte} (ha : a ∈ configAddresses) (hupc : s.upc = a) (h : phaseAt a s = true) :
    ∃ i t, Proceeds s i t := by
  obtain ⟨hidx, hconf⟩ := (phaseAt_config ha s).mp h
  have hidx0 := toNat_of_idxZero hidx
  have hconfig {b : Byte} (hb : b ∈ configAddresses) (u : State) (hu : u.idxZero = true) (hu' : u.configuring = true) : phaseAt b u = true :=
    (phaseAt_config hb u).mpr ⟨hu, hu'⟩
  simp only [configAddresses, List.mem_cons, List.not_mem_nil, or_false] at ha
  obtain rfl | rfl | rfl | rfl | rfl | rfl | rfl | rfl | rfl | rfl | rfl | rfl | rfl | rfl := ha
  · exact proceeds_advance (i := .smode 0#8) hupc (by decide) (by decide) (exec_smode (by decide) s) rfl (by decide)
      (hconfig (by decide) _ hidx hconf) (by simp [placeAt])
  · exact proceeds_advance hupc (by decide) (by decide) (exec_qsw s) rfl (by decide) (hconfig (by decide) _ hidx hconf) (by simp [placeAt])
  · exact proceeds_branch hupc (by decide) (by decide) (exec_bega 0x30#8 s) (by decide) (by decide)
      ⟨hconfig (by decide) _ hidx hconf, hconfig (by decide) _ hidx hconf⟩ (by simp [placeAt])
  · exact proceeds_advance hupc (by decide) (by decide) (exec_qds s) rfl (by decide) (hconfig (by decide) _ hidx hconf) (by simp [placeAt])
  · exact proceeds_branch hupc (by decide) (by decide) (exec_bmono 0x38#8 s) (by decide) (by decide)
      ⟨hconfig (by decide) _ hidx hconf, hconfig (by decide) _ hidx hconf⟩ (by simp [placeAt])
  · exact proceeds_advance hupc (by decide) (by decide) (exec_crtcw (a := 0#8) (k := 0) rfl s) rfl (by decide)
      (hconfig (by decide) _ hidx hconf) (by simp [placeAt])
  · exact proceeds_advance hupc (by decide) (by decide) (exec_crtcw (a := 1#8) (k := 1) rfl s) rfl (by decide)
      (hconfig (by decide) _ hidx hconf) (by simp [placeAt])
  · exact proceeds_advance hupc (by decide) (by decide) (exec_crtcw (a := 2#8) (k := 2) rfl s) rfl (by decide)
      (hconfig (by decide) _ hidx hconf) (by simp [placeAt])
  · exact proceeds_advance hupc (by decide) (by decide) (exec_crtcw (a := 3#8) (k := 3) rfl s) rfl (by decide)
      (hconfig (by decide) _ hidx hconf) (by simp [placeAt])
  · exact proceeds_call hupc (by decide) hidx (returnOk_of_config hconf) (by simp [placeAt])
  · exact proceeds_advance hupc (by decide) (by decide) (exec_bind (a := 1#8) (.inl rfl) s) rfl (by decide)
      ((phaseAt_reportCga _).mpr ⟨hidx, binding_of_configuring 1#2 hconf⟩) (by simp [placeAt])
  · exact proceeds_advance (i := .smode 1#8) hupc (by decide) (by decide) (exec_smode (by decide) s) rfl (by decide)
      (hconfig (by decide) _ hidx hconf) (by simp [placeAt])
  · exact proceeds_advance hupc (by decide) (by decide) (exec_bind (a := 2#8) (.inr rfl) s) rfl (by decide)
      ((phaseAt_clearEga _).mpr ⟨hidx0 ▸ (by decide : 0 < 16000), binding_of_configuring 2#2 hconf⟩) (by simp [placeAt])
  · obtain ⟨hbind, -, -⟩ := (configuring_iff s).mp hconf
    exact proceeds_advance hupc (by decide) (by decide) (exec_report (a := 0#8) (by decide) s) rfl (by decide)
      ((phaseAt_unsupported _).mpr ⟨hidx, hbind, rfl, by simp⟩) (by simp [placeAt])

theorem proceeds_configLoop {s : State} {a : Byte} (ha : a ∈ [0x2A#8, 0x2B#8]) (hupc : s.upc = a) (h : phaseAt a s = true) :
    ∃ i t, Proceeds s i t := by
  obtain ⟨hidx, hconf⟩ := (phaseAt_configLoop ha s).mp h
  simp only [List.mem_cons, List.not_mem_nil, or_false] at ha
  obtain rfl | rfl := ha
  · exact proceeds_loop hupc (by decide) (by decide) (exec_stamp hidx) rfl rfl (by omega) (by decide) (by decide) (by decide)
      (fun k hk => (phaseAt_configLoop (by decide) _).mpr ⟨Nat.lt_succ_of_le hk, hconf⟩) rfl
      ((phaseAt_configLoop (by decide) _).mpr ⟨(by decide : 0 < 16000), hconf⟩) (by simp [placeAt])
  · exact proceeds_loop hupc (by decide) (by decide) (exec_lfbclr hidx) rfl rfl (by omega) (by decide) (by decide) (by decide)
      (fun k hk => (phaseAt_configLoop (by decide) _).mpr ⟨Nat.lt_succ_of_le hk, hconf⟩) rfl
      ((phaseAt_config (by decide) _).mpr ⟨rfl, hconf⟩) (by simp [placeAt])

theorem proceeds_clearEga {s : State} (hupc : s.upc = 0x32#8) (h : phaseAt 0x32#8 s = true) : ∃ i t, Proceeds s i t := by
  obtain ⟨hidx, hbinding⟩ := (phaseAt_clearEga s).mp h
  exact proceeds_loop hupc (by decide) (by decide) (exec_lfbclr hidx) rfl rfl (by omega) (by decide) (by decide) (by decide)
    (fun k hk => (phaseAt_clearEga _).mpr ⟨Nat.lt_succ_of_le hk, hbinding⟩) rfl
    ((phaseAt_reportEga _).mpr ⟨rfl, hbinding⟩) (by simp [placeAt])

theorem proceeds_reportCga {s : State} (hupc : s.upc = 0x2D#8) (h : phaseAt 0x2D#8 s = true) : ∃ i t, Proceeds s i t := by
  obtain ⟨hidx, hbinding⟩ := (phaseAt_reportCga s).mp h
  exact proceeds_advance hupc (by decide) (by decide) (exec_report (a := 1#8) (by decide) s) rfl (by decide)
    ((phaseAt_cga (by decide) _).mpr ⟨hidx, bound_reportClass hbinding (by decide)⟩) (by simp [placeAt])

theorem proceeds_reportEga {s : State} (hupc : s.upc = 0x33#8) (h : phaseAt 0x33#8 s = true) : ∃ i t, Proceeds s i t := by
  obtain ⟨hidx, hbinding⟩ := (phaseAt_reportEga s).mp h
  exact proceeds_advance hupc (by decide) (by decide) (exec_report (a := 2#8) (by decide) s) rfl (by decide)
    ((phaseAt_ega (by decide) _).mpr ⟨hidx, bound_reportClass hbinding (by decide)⟩) (by simp [placeAt])

theorem proceeds_unsupported {s : State} (hupc : s.upc = 0x39#8) (h : phaseAt 0x39#8 s = true) : ∃ i t, Proceeds s i t := by
  obtain ⟨hidx, hbind, hcfgd, hunsup⟩ := (phaseAt_unsupported s).mp h
  exact proceeds_done hupc (by decide) hidx (settled_of_unsupported hbind hcfgd hunsup)

/-! ## Every address -/

/-- The listed addresses, by what holds at them. -/
theorem listedAddress_cases {a : Byte} (h : a.toNat ∈ listedWords.map (·.1)) :
    a ∈ waitAddresses ∨ a ∈ idleAddresses ∨ a ∈ [0x08#8, 0x0A#8] ∨ a ∈ [0x09#8, 0x0B#8, 0x2E#8] ∨ a ∈ [0x11#8, 0x13#8] ∨ a = 0x12#8
    ∨ a ∈ egaAddresses ∨ a ∈ configAddresses ∨ a ∈ [0x2A#8, 0x2B#8] ∨ a = 0x2D#8 ∨ a = 0x32#8 ∨ a = 0x33#8 ∨ a = 0x39#8 := by
  revert a
  decide

/-- While a command runs the block's step proceeds, wherever the micro-program is. -/
theorem proceeds_of_phaseOk {s : State} (hfits : s.pageAct.toNat + 8000 ≤ s.cfg.egaPlaneSize) (hbusy : s.upc ≠ 0x00#8)
    (hphase : s.phaseOk = true) : ∃ i t, Proceeds s i t := by
  have hlisted := listed_of_phaseOk hphase
  rw [phaseOk_of_upc rfl] at hphase
  obtain ha | ha | ha | ha | ha | ha | ha | ha | ha | ha | ha | ha | ha := listedAddress_cases hlisted
  · exact proceeds_wait ha rfl hphase
  · exact proceeds_idle ha hbusy rfl hphase
  · exact proceeds_cgaLoop ha rfl hphase
  · exact proceeds_cga ha rfl hphase
  · exact proceeds_plane ha rfl hphase
  · exact proceeds_slice hfits ha (ha ▸ hphase)
  · exact proceeds_ega ha rfl hphase
  · exact proceeds_config ha rfl hphase
  · exact proceeds_configLoop ha rfl hphase
  · exact proceeds_reportCga ha (ha ▸ hphase)
  · exact proceeds_clearEga ha (ha ▸ hphase)
  · exact proceeds_reportEga ha (ha ▸ hphase)
  · exact proceeds_unsupported ha (ha ▸ hphase)

end Sys2Proof.Claims
end


section
/-! PROOF. The invariant of the machine (30_encoding.md section 4, 10_state.md, 43_detector.md): every step keeps it, no step from it stops, and SLICE leaves the visible region alone (42_ega_presenter.md R131). -/

namespace Sys2Proof.Claims

open Sys2Proof.Machine

/-! ## The two regions (00_scope.md R5, 10_state.md R22) -/

theorem pages_of_valid {p : Config.Params} (h : p.valid = true) :
    p.pageA.toNat + 8000 ≤ p.egaPlaneSize ∧ p.pageB.toNat + 8000 ≤ p.egaPlaneSize
    ∧ (p.pageA.toNat + 8000 ≤ p.pageB.toNat ∨ p.pageB.toNat + 8000 ≤ p.pageA.toNat) := by
  simp only [Config.Params.valid, Config.regionsDisjoint, Bool.and_eq_true, Bool.or_eq_true, decide_eq_true_eq] at h
  obtain ⟨⟨⟨⟨⟨⟨⟨⟨⟨-, hA⟩, hB⟩, hdisjoint⟩, -⟩, -⟩, -⟩, -⟩, -⟩, -⟩ := h
  exact ⟨hA, hB, hdisjoint⟩

/-- Both regions of the page pair lie in the plane, and they do not meet. -/
theorem regions_of_inv {s : State} (h : s.Inv) :
    s.pageAct.toNat + 8000 ≤ s.cfg.egaPlaneSize ∧ ∀ a, inRegion s.pageVis a → ¬ inRegion s.pageAct a := by
  obtain ⟨hA, hB, hdisjoint⟩ := pages_of_valid h.params
  have hmeet {x y : Word} (hxy : x.toNat + 8000 ≤ y.toNat ∨ y.toNat + 8000 ≤ x.toNat) (a : Nat) (hx : inRegion x a) : ¬ inRegion y a := by
    simp only [inRegion, Config.PLANEBYTES] at hx ⊢
    omega
  obtain ⟨hvis, hact⟩ | ⟨hvis, hact⟩ := h.pages
  · rw [hvis, hact]
    exact ⟨hB, hmeet hdisjoint⟩
  · rw [hvis, hact]
    exact ⟨hA, hmeet hdisjoint.symm⟩

/-- Settles O24: SLICE writes one offset of the hidden region, and that is not in the visible one. -/
theorem sliceLeavesVisibleRegion : Obligations.SliceLeavesVisibleRegion := by
  intro s h hupc
  obtain ⟨hfits, hdisjoint⟩ := regions_of_inv h
  obtain ⟨hidx, -, p, hpl, hsel⟩ := (phaseAt_slice s).mp ((phaseOk_of_upc hupc).symm.trans h.phase)
  refine ⟨_, exec_slice hidx hpl hsel (by omega), fun q a ha => (EgaPlanes.read?_write _ _ _ _ _ _).trans (if_neg fun hwritten => ?_)⟩
  refine hdisjoint a ha ?_
  simp only [inRegion, Config.PLANEBYTES]
  omega

/-! ## Moves that the invariant does not see -/

theorem inv_env {s : State} (env : Env) (h : s.Inv) : ({ s with env := env } : State).Inv :=
  ⟨h.params, h.rom, h.mem, h.pages, h.glyphs, h.noCmd, h.busy, h.fault, h.phase⟩

theorem inv_emit {s : State} (e : Event) (h : s.Inv) : (s.emit e).Inv :=
  ⟨h.params, h.rom, h.mem, h.pages, h.glyphs, h.noCmd, h.busy, h.fault, h.phase⟩

theorem inv_driveLines {s : State} (vr de : Bool) (h : s.Inv) : (s.driveLines vr de).Inv :=
  ⟨h.params, h.rom, h.mem, h.pages, h.glyphs, h.noCmd, h.busy, h.fault, h.phase⟩

theorem inv_freeLines {s : State} (h : s.Inv) : s.freeLines.Inv := inv_env _ (inv_driveLines _ _ h)

theorem inv_writeLfb {s : State} {i : Nat} (v : Byte) (hi : i < 16000) (h : s.Inv) : (s.writeLfb i v).Inv :=
  ⟨h.params, h.rom, State.memSound_writeLfb v hi h.mem, h.pages, h.glyphs, h.noCmd, h.busy, h.fault, h.phase⟩

/-- A refusal leaves a code with FAULT = 1: the first one, or its own, which is not 0. -/
theorem inv_raise {s : State} (r : Reason) (h : s.Inv) : (s.raise r).Inv := by
  have hfault : (s.raise r).faultOk = true := by
    have hold := h.fault
    cases hf : s.status.fault <;> simp_all [State.faultOk, Reason.code_ne_zero]
  exact ⟨h.params, h.rom, h.mem, h.pages, h.glyphs, h.noCmd, h.busy, hfault, h.phase⟩

theorem inv_blockReset {s : State} (h : s.Inv) : s.blockReset.Inv :=
  ⟨h.params, h.rom, memSound_blockReset h.mem, .inl ⟨rfl, rfl⟩, h.glyphs, rfl, rfl, rfl, rfl⟩

/-! ## Commands (44_host_interface.md R170) -/

/-- An idle block is at address 0x00, with IDX = 0 and flags and binding that agree. -/
theorem idle_of_inv {s : State} (h : s.Inv) (hidle : s.status.busy = false) : s.upc = 0x00#8 ∧ s.idxZero = true ∧ s.settled = true := by
  have hupc : s.upc = 0x00#8 := by simpa [State.busyOk, hidle] using h.busy
  exact ⟨hupc, (phaseAt_idle (by decide) s).mp ((phaseOk_of_upc hupc).symm.trans h.phase)⟩

theorem inv_accept {s : State} {entry : Byte} (h : s.Inv) (hentry : entry ≠ 0x00#8) (hphase : phaseAt entry s = true) :
    (s.accept entry).Inv := by
  have hbusy : (s.accept entry).busyOk = true := by simpa [State.busyOk] using hentry
  exact ⟨h.params, h.rom, h.mem, h.pages, h.glyphs, h.noCmd, hbusy, h.fault, hphase⟩

theorem configuring_of_settled {s : State} (h : s.settled = true) (hcfgd : s.status.cfgd = false) : s.configuring = true := by
  simpa [State.settled, State.configuring, hcfgd] using h

theorem bound_of_settled {s : State} {b : BitVec 2} (h : s.settled = true) (hb : b = 1#2 ∨ b = 2#2) (hbind : s.bind = b) : s.bound b = true := by
  obtain rfl | rfl := hb <;> simpa [State.settled, State.bound, hbind] using h

/-- The dispatch of a byte by an idle block enters its command in the phase of the entry, or refuses. -/
theorem inv_dispatchCommand {s : State} (c : Byte) (h : s.Inv) (hidle : s.status.busy = false) : (s.dispatchCommand c).Inv := by
  obtain ⟨-, hidx, hsettled⟩ := idle_of_inv h hidle
  have hidx0 := toNat_of_idxZero hidx
  have hlogged := inv_emit (.cmd c) h
  have hin : (s.emit (.cmd c)).idx.toNat < 8000 := hidx0 ▸ (by decide : 0 < 8000)
  obtain ⟨-, hcfgd, ht⟩ | ⟨-, -, ht⟩ | ⟨-, hbind, ht⟩ | ⟨-, hbind, ht⟩ | ⟨-, -, -, ht⟩ | ⟨-, ht⟩ | ⟨-, ht⟩ | ⟨-, -, -, -, ht⟩ :=
    State.dispatchCommand_cases s c <;> rw [ht]
  · exact inv_accept hlogged (by decide) ((phaseAt_config (by decide) _).mpr ⟨hidx, configuring_of_settled hsettled hcfgd⟩)
  · exact inv_raise _ hlogged
  · exact inv_accept hlogged (by decide) ((phaseAt_cgaLoop (by decide) _).mpr ⟨hin, bound_of_settled hsettled (.inl rfl) hbind⟩)
  · exact inv_accept hlogged (by decide) ((phaseAt_ega (by decide) _).mpr ⟨hidx, bound_of_settled hsettled (.inr rfl) hbind⟩)
  · exact inv_raise _ hlogged
  · exact inv_accept hlogged (by decide) ((phaseAt_idle (by decide) _).mpr ⟨hidx, hsettled⟩)
  · exact inv_accept hlogged (by decide) ((phaseAt_idle (by decide) _).mpr ⟨hidx, hsettled⟩)
  · exact inv_raise _ hlogged

theorem inv_hostWriteCmd {s t : State} {c : Byte} (h : s.Inv) (hwrite : hostWriteCmd c s = .next t) : t.Inv := by
  cases hbusy : s.status.busy with
  | true =>
    cases (hostWriteCmd_busy hbusy).symm.trans hwrite
    exact inv_raise _ h
  | false =>
    cases (hostWriteCmd_idle hbusy).symm.trans hwrite
    have hsame : { s with cmd := none } = s := by rw [← h.noCmd]
    rw [hsame]
    exact inv_dispatchCommand c h hbusy

/-! ## The block's step -/

/-- No instruction writes the parameters or the ROM, and only the dispatch of a command writes CMD, FAULT, FCODE or, beside DONE, BUSY. -/
theorem effect_frame {s t : State} {i : Instr} (hi : i ∉ dispatchers) (h : Effect s i t) :
    t.cfg = s.cfg ∧ t.romPatch = s.romPatch ∧ t.cmd = s.cmd ∧ t.status.fault = s.status.fault ∧ t.fcode = s.fcode
    ∧ (i ≠ .done → t.status.busy = s.status.busy) := by
  cases h with
  | waits => exact absurd (by decide) hi
  | accepts hi' c entry => exact absurd hi' hi
  | refuses hi' c r => exact absurd hi' hi
  | turnsAway hi' r => exact absurd hi' hi
  | done => exact ⟨rfl, rfl, rfl, rfl, rfl, fun hne => absurd rfl hne⟩
  | _ => exact ⟨rfl, rfl, rfl, rfl, rfl, fun _ => rfl⟩

/-- BUSY = 0 again exactly at the end of the command. -/
theorem busyOk_of_proceeds {s t : State} {i : Instr} (h : s.Inv) (hbusy : s.upc ≠ 0x00#8) (hp : Proceeds s i t) : t.busyOk = true := by
  have hs : s.status.busy = true := (eq_of_beq h.busy).trans (bne_iff_ne.mpr hbusy)
  obtain ⟨-, -, -, -, -, hkeeps⟩ := effect_frame hp.inner (effect_of_exec hp.exec)
  cases hp.stride with
  | ends hi ht => rw [ht]; rfl
  | nears hi hupc hrank => simpa [State.busyOk, hkeeps hi, hs] using hupc
  | stays hpoll hupc ht => rw [ht]; exact h.busy

theorem inv_of_proceeds {s t : State} {i : Instr} (h : s.Inv) (hbusy : s.upc ≠ 0x00#8) (hp : Proceeds s i t) : t.Inv := by
  have heffect := effect_of_exec hp.exec
  obtain ⟨hcfg, hrom, hcmd, hfault, hfcode, -⟩ := effect_frame hp.inner heffect
  exact {
    params := hcfg ▸ h.params
    rom := hrom.trans h.rom
    mem := memSound_effect h.mem heffect
    pages := pagePair_effect h.pages heffect
    glyphs := glyphsKept_effect h.glyphs heffect
    noCmd := hcmd.trans h.noCmd
    busy := busyOk_of_proceeds h hbusy hp
    fault := by rw [State.faultOk, hfault, hfcode]; exact h.fault
    phase := hp.phase }

/-- The idle block waits. -/
theorem blockStep_of_idle {s : State} (h : s.Inv) (hupc : s.upc = 0x00#8) : blockStep s = .next s := by
  have hcode : decodeMicro s.fetchWord = .ok .idle := by
    rw [fetchWord_eq h.rom, hupc]
    decide
  rw [blockStep_of_decode hcode, idleWaitsForHost s h.noCmd]

/-- The block's step in a state of the invariant: it waits where no command runs, and else proceeds. -/
theorem blockStep_of_inv {s : State} (h : s.Inv) :
    (s.upc = 0x00#8 ∧ blockStep s = .next s) ∨ (s.upc ≠ 0x00#8 ∧ ∃ i t, Proceeds s i t ∧ blockStep s = .next t) := by
  by_cases hupc : s.upc = 0x00#8
  · exact .inl ⟨hupc, blockStep_of_idle h hupc⟩
  · obtain ⟨hfits, -⟩ := regions_of_inv h
    obtain ⟨i, t, hp⟩ := proceeds_of_phaseOk hfits hupc h.phase
    have hcode : decodeMicro s.fetchWord = .ok i := (congrArg decodeMicro (fetchWord_eq h.rom)).trans hp.code
    exact .inr ⟨hupc, i, t, hp, (blockStep_of_decode hcode).trans hp.exec⟩

theorem inv_blockStep {s t : State} (h : s.Inv) (hstep : blockStep s = .next t) : t.Inv := by
  obtain ⟨-, hwait⟩ | ⟨hupc, i, u, hp, hu⟩ := blockStep_of_inv h
  · cases hwait.symm.trans hstep
    exact h
  · cases hu.symm.trans hstep
    exact inv_of_proceeds h hupc hp

/-! ## Every step -/

/-- Settles O54: each move keeps the invariant, and the block's is the one that moves the phase. -/
theorem stepKeepsInvariant : Obligations.StepKeepsInvariant := by
  refine fun _ _ => step_keeps (fun s env => inv_env env) (fun s vr de => inv_driveLines vr de) fun s m t h hm => ?_
  cases hm with
  | block i hcode hexec => exact inv_blockStep h ((blockStep_of_decode hcode).trans hexec)
  | lines m vr de => exact inv_driveLines vr de h
  | command c hwrite => exact inv_hostWriteCmd h hwrite
  | lfbWrite m i v hi => exact inv_writeLfb v hi h
  | refused m r => exact inv_raise r h
  | refusedRead m r => exact inv_env _ (inv_raise r h)
  | replies m v => exact inv_env _ h
  | ignored m => exact h
  | reset => exact inv_blockReset h

end Sys2Proof.Claims
end


section
/-! PROOF. From the invariant the machine never stops, and under the liveness assumption of 70_reset_and_hazards.md R236 every command ends. -/

namespace Sys2Proof.Claims

open Sys2Proof.Machine

/-! ## No step stops -/

theorem hostStep_total (a : HostAction) (s : State) : ∃ t, hostStep a s = .next t := by
  cases a with
  | writeCmd c =>
    rw [show hostStep (.writeCmd c) s = hostWriteCmd c s from commandStep_eq c s]
    cases hbusy : s.status.busy with
    | true => exact ⟨_, hostWriteCmd_busy hbusy⟩
    | false => exact ⟨_, hostWriteCmd_idle hbusy⟩
  | lfbWrite i v => exact ⟨_, rfl⟩
  | lfbRead i => exact ⟨_, rfl⟩
  | readReg r => exact ⟨_, rfl⟩
  | writeReg r v => exact ⟨_, rfl⟩

theorem blockStep_total {s : State} (h : s.Inv) : ∃ t, blockStep s = .next t := by
  obtain ⟨-, ht⟩ | ⟨-, -, t, -, ht⟩ := blockStep_of_inv h
  · exact ⟨s, ht⟩
  · exact ⟨t, ht⟩

theorem step_total {s : State} (h : s.Inv) : ∃ t, step s = .next t := by
  cases hin : s.env.inputs with
  | nil => rw [step_of_nil hin]; exact blockStep_total (inv_freeLines h)
  | cons m rest =>
    rw [step_of_cons hin]
    cases m with
    | block => exact blockStep_total (inv_env _ h)
    | lines vr de => exact ⟨_, rfl⟩
    | statusByte b => exact ⟨_, rfl⟩
    | host a => exact hostStep_total a _
    | reset => exact ⟨_, rfl⟩

/-! ## The run of a state of the invariant -/

/-- The state a step leads to; where the machine stops, the state itself. -/
def nextState (s : State) : State :=
  match step s with
  | .next t => t
  | .fault _ => s
  | .refused _ => s

/-- The states of the run from `s`. -/
def runFrom (s : State) : Nat → State
  | 0 => s
  | n + 1 => nextState (runFrom s n)

theorem step_nextState {s : State} (h : s.Inv) : step s = .next (nextState s) := by
  obtain ⟨t, ht⟩ := step_total h
  rw [nextState, ht]

theorem inv_runFrom {s : State} (h : s.Inv) (n : Nat) : (runFrom s n).Inv := by
  induction n with
  | zero => exact h
  | succ n ih => exact stepKeepsInvariant _ _ ih (step_nextState ih)

theorem step_runFrom {s : State} (h : s.Inv) (n : Nat) : step (runFrom s n) = .next (runFrom s (n + 1)) :=
  step_nextState (inv_runFrom h n)

theorem run_eq_runFrom {s : State} (h : s.Inv) (n : Nat) : Sys2Proof.core.run n s = .next (runFrom s n) := by
  induction n with
  | zero => rfl
  | succ n ih => rw [run_add ih, run_succ (step_runFrom h n)]; rfl

/-! ## The moves to come -/

theorem effect_inputs {s t : State} {i : Instr} (h : Effect s i t) : t.env.inputs = s.env.inputs := by
  cases h <;> rfl

theorem move_inputs {u t : State} {m : Input} (h : Move u m t) : t.env.inputs = u.env.inputs := by
  cases h with
  | block i hcode hexec => exact effect_inputs (effect_of_exec hexec)
  | command c hwrite => exact effect_inputs (effect_hostWriteCmd (i := .idle) (by decide) hwrite)
  | _ => rfl

/-- A step takes the first move listed, if one is. -/
theorem inputs_of_step {s t : State} (h : step s = .next t) : t.env.inputs = s.env.inputs.tail := by
  obtain ⟨hin, i, -, hexec⟩ | ⟨m, rest, hin, hm⟩ := move_of_step h
  · rw [effect_inputs (effect_of_exec hexec), hin]
    exact hin
  · rw [move_inputs hm, hin]
    rfl

theorem inputs_runFrom {s : State} (h : s.Inv) (n : Nat) : (runFrom s n).env.inputs = s.env.inputs.drop n := by
  induction n with
  | zero => rfl
  | succ n ih => rw [inputs_of_step (step_runFrom h n), ih, List.tail_drop]

/-! ## Events -/

theorem effect_events {s t : State} {i : Instr} (h : Effect s i t) : s.events <:+ t.events := by
  cases h with
  | refuses hi c r => exact (List.suffix_cons _ _).trans (List.suffix_cons _ _)
  | _ => simp

/-- Only a reset takes events away. -/
theorem events_of_step {s t : State} (h : step s = .next t) (hreset : s.env.inputs.head? ≠ some .reset) : s.events <:+ t.events := by
  obtain ⟨-, i, -, hexec⟩ | ⟨m, rest, hin, hm⟩ := move_of_step h
  · exact effect_events (s := s.freeLines) (effect_of_exec hexec)
  · cases hm with
    | block i hcode hexec => exact effect_events (s := s.withInputs rest) (effect_of_exec hexec)
    | command c hwrite => exact effect_events (s := s.withInputs rest) (effect_hostWriteCmd (i := .idle) (by decide) hwrite)
    | refused m r => exact List.suffix_cons _ _
    | refusedRead m r => exact List.suffix_cons _ _
    | reset => exact absurd (by rw [hin]; rfl) hreset
    | _ => exact List.suffix_rfl

theorem events_runFrom {s : State} (h : s.Inv) (hreset : .reset ∉ s.env.inputs) (n : Nat) : s.events <:+ (runFrom s n).events := by
  induction n with
  | zero => exact List.suffix_rfl
  | succ n ih =>
    refine ih.trans (events_of_step (step_runFrom h n) fun hhead => hreset ?_)
    rw [inputs_runFrom h] at hhead
    exact List.mem_of_mem_drop (List.mem_of_mem_head? hhead)

/-! ## The last step of a command -/

/-- The block's step to 0x00 while a command runs is DONE. -/
theorem done_of_blockStep {s t : State} (h : s.Inv) (hbusy : s.upc ≠ 0x00#8) (hstep : blockStep s = .next t) (hupc : t.upc = 0x00#8) :
    t.events = .done :: s.events := by
  obtain ⟨hidle, -⟩ | ⟨-, i, u, hp, hu⟩ := blockStep_of_inv h
  · exact absurd hidle hbusy
  · cases hu.symm.trans hstep
    cases hp.stride with
    | ends hi ht => rw [ht]; rfl
    | nears hi hne hrank => exact absurd hupc hne
    | stays hpoll hne ht => rw [ht] at hupc; exact absurd hupc hne

/-- The step to 0x00 while a command runs is DONE, or a reset. -/
theorem done_of_step {s t : State} (h : s.Inv) (hbusy : s.upc ≠ 0x00#8) (hstep : step s = .next t)
    (hreset : s.env.inputs.head? ≠ some .reset) (hupc : t.upc = 0x00#8) : t.events = .done :: s.events := by
  have hflag : s.status.busy = true := (eq_of_beq h.busy).trans (bne_iff_ne.mpr hbusy)
  obtain ⟨-, i, hcode, hexec⟩ | ⟨m, rest, hin, hm⟩ := move_of_step hstep
  · exact done_of_blockStep (s := s.freeLines) (inv_freeLines h) hbusy ((blockStep_of_decode hcode).trans hexec) hupc
  · cases hm with
    | block i hcode hexec =>
      exact done_of_blockStep (s := s.withInputs rest) (inv_env _ h) hbusy ((blockStep_of_decode hcode).trans hexec) hupc
    | command c hwrite =>
      cases (hostWriteCmd_busy (s := s.withInputs rest) hflag).symm.trans hwrite
      exact absurd hupc hbusy
    | reset => exact absurd (by rw [hin]; rfl) hreset
    | _ => exact absurd hupc hbusy

/-! ## Every command ends (70_reset_and_hazards.md R236) -/

/-- With no move listed and a command running, the step ends it, comes nearer to its end, or is a poll that stays. -/
theorem stride_of_step {s t : State} (h : s.Inv) (hbusy : s.upc ≠ 0x00#8) (hin : s.env.inputs = []) (hstep : step s = .next t)
    (hgoes : t.upc ≠ 0x00#8) :
    rank t < rank s ∨ ∃ i, decodeMicro (romWord [] s.upc) = .ok i ∧ KeepsPolling i s.freeLines.adapter.vr s.freeLines.adapter.de
      ∧ t = s.freeLines.statusRead := by
  rw [step_of_nil hin] at hstep
  obtain ⟨hidle, -⟩ | ⟨-, i, u, hp, hu⟩ := blockStep_of_inv (inv_freeLines h)
  · exact absurd hidle hbusy
  · cases hu.symm.trans hstep
    cases hp.stride with
    | ends hi ht => rw [ht] at hgoes; exact absurd rfl hgoes
    | nears hi hne hrank => exact .inl hrank
    | stays hpoll hne ht => exact .inr ⟨i, hp.code, hpoll, ht⟩

/-- A sequence of naturals that never rises is constant from some index on. -/
theorem eventually_const {f : Nat → Nat} (hf : Antitone f) : ∃ N, ∀ n, N ≤ n → f n = f N := by
  obtain ⟨m, ⟨N, rfl⟩, hmin⟩ := wellFounded_lt.has_min (Set.range f) ⟨f 0, 0, rfl⟩
  exact ⟨N, fun n hn => le_antisymm (hf hn) (Nat.le_of_not_lt (hmin (f n) ⟨n, rfl⟩))⟩

/-- A run in which a command never ends polls for ever at one address for levels it never reads. -/
theorem polls_of_never_idle {s : State} (h : s.Inv) (hnever : ∀ n, (runFrom s n).upc ≠ 0x00#8) :
    ∃ N i, ∀ n, N ≤ n → ∃ vr de, KeepsPolling i vr de ∧ (runFrom s (n + 1)).events = .statusRead vr de :: (runFrom s n).events := by
  have hstride (k : Nat) := stride_of_step (inv_runFrom h (s.env.inputs.length + k)) (hnever _)
    (by rw [inputs_runFrom h]; exact List.drop_eq_nil_of_le (Nat.le_add_right _ _)) (step_runFrom h _) (hnever _)
  have hanti : Antitone fun k => rank (runFrom s (s.env.inputs.length + k)) := by
    refine antitone_nat_of_succ_le fun k => ?_
    obtain hnear | ⟨i, -, -, ht⟩ := hstride k
    · exact hnear.le
    · show rank (runFrom s (s.env.inputs.length + k + 1)) ≤ _
      rw [ht]
      exact le_rfl
  obtain ⟨N, hconst⟩ := eventually_const hanti
  have hpoll (k : Nat) (hk : N ≤ k) := (hstride k).resolve_left fun hnear => absurd ((hconst (k + 1) (by omega)).trans (hconst k hk).symm) hnear.ne
  have hupc (k : Nat) (hk : N ≤ k) : (runFrom s (s.env.inputs.length + k)).upc = (runFrom s (s.env.inputs.length + N)).upc := by
    induction k, hk using Nat.le_induction with
    | base => rfl
    | succ k hk ih =>
      obtain ⟨i, -, -, ht⟩ := hpoll k hk
      exact (congrArg State.upc ht).trans ih
  obtain ⟨i, hcode, -, -⟩ := hpoll N le_rfl
  refine ⟨s.env.inputs.length + N, i, fun n hn => ?_⟩
  obtain ⟨k, rfl⟩ := Nat.exists_eq_add_of_le (show s.env.inputs.length ≤ n by omega)
  obtain ⟨j, hj, hkeeps, ht⟩ := hpoll k (by omega)
  rw [hupc k (by omega), hcode] at hj
  cases hj
  exact ⟨_, _, hkeeps, congrArg State.events ht⟩

/-- Live lines end every poll, so the block becomes idle. -/
theorem idle_of_linesLive {s : State} (h : s.Inv) (hlive : s.linesLive) : ∃ n, (runFrom s n).upc = 0x00#8 := by
  by_contra hnone
  obtain ⟨N, i, hpolls⟩ := polls_of_never_idle h fun n hn => hnone ⟨n, hn⟩
  have hread {n : Nat} {vr de : Bool} (hn : N ≤ n) (hat : s.pollsAt n vr de) : KeepsPolling i vr de := by
    obtain ⟨u, t, hu, ht, hevents⟩ := hat
    cases (run_eq_runFrom h n).symm.trans hu
    cases (step_runFrom h n).symm.trans ht
    obtain ⟨vr', de', hkeeps, hevents'⟩ := hpolls n hn
    cases hevents'.symm.trans hevents
    exact hkeeps
  have hforever : s.pollsForever fun _ _ => True := by
    intro k
    obtain ⟨vr, de, -, hevents⟩ := hpolls (max k N) (le_max_right k N)
    exact ⟨max k N, vr, de, le_max_left k N, trivial, _, _, run_eq_runFrom h _, step_runFrom h _, hevents⟩
  obtain ⟨hlow, hhigh, hdisplay⟩ := hlive hforever
  obtain ⟨vr₀, de₀, hkeeps, -⟩ := hpolls N le_rfl
  obtain ⟨rfl, -⟩ | ⟨rfl, -⟩ | ⟨rfl, -⟩ := hkeeps
  · obtain ⟨n, vr, de, hn, rfl, hat⟩ := hlow N
    exact absurd (hread hn hat) (by simp [KeepsPolling])
  · obtain ⟨n, vr, de, hn, rfl, hat⟩ := hhigh N
    exact absurd (hread hn hat) (by simp [KeepsPolling])
  · obtain ⟨n, vr, de, hn, rfl, hat⟩ := hdisplay N
    exact absurd (hread hn hat) (by simp [KeepsPolling])

/-- Settles O55: no step of the invariant stops, and the first idle state of the run comes after DONE. -/
theorem invariantNeverStops : Obligations.InvariantNeverStops := by
  classical
  refine ⟨fun s h => step_total h, fun s h hlive => ?_⟩
  have hex := idle_of_linesLive h hlive
  have hupc : (runFrom s (Nat.find hex)).upc = 0x00#8 := Nat.find_spec hex
  have hidle := (inv_runFrom h (Nat.find hex)).busy
  rw [State.busyOk, hupc] at hidle
  refine ⟨Nat.find hex, _, run_eq_runFrom h _, hupc, eq_of_beq hidle, fun hbusy hreset => ?_⟩
  have hne : s.upc ≠ 0x00#8 := bne_iff_ne.mp ((eq_of_beq h.busy).symm.trans hbusy)
  obtain ⟨m, hm⟩ : ∃ m, Nat.find hex = m + 1 := Nat.exists_eq_succ_of_ne_zero fun h0 => hne (by rw [h0] at hupc; exact hupc)
  rw [hm] at hupc ⊢
  have hbefore : (runFrom s m).upc ≠ 0x00#8 := Nat.find_min hex (by omega)
  have hnot : (runFrom s m).env.inputs.head? ≠ some .reset := fun hhead => by
    rw [inputs_runFrom h] at hhead
    exact hreset (List.mem_of_mem_drop (List.mem_of_mem_head? hhead))
  have hdone := done_of_step (inv_runFrom h m) hbefore (step_runFrom h m) hnot hupc
  obtain ⟨l, hl⟩ := events_runFrom h hreset m
  exact ⟨l.reverse, by simp [State.history, hdone, ← hl]⟩

end Sys2Proof.Claims
end


section
/-! PROOF. Runs of the micro-program: one step of a run for each kind of move, the polls, and the statements of 40_sync.md about wait_vsync (R104) and WAITV (R105). -/

namespace Sys2Proof.Claims

open Sys2Proof.Machine

/-! ## One step of a run -/

theorem run_then {m n : Nat} {s u t : State} (h : run m s = .next u) (h' : run n u = .next t) : run (m + n) s = .next t :=
  (run_add h).trans h'

theorem run_step {n : Nat} {s u t : State} (h : step s = .next u) (h' : run n u = .next t) : run (n + 1) s = .next t :=
  (run_succ h).trans h'

/-- The block's move at the address `a` of the ROM is the instruction there. -/
theorem step_block {s : State} (a : Byte) (i : Instr) {rest : List Input} (hrom : s.romPatch = []) (hupc : s.upc = a)
    (hin : s.env.inputs = .block :: rest) (hcode : decodeMicro (romWord [] a) = .ok i) : step s = exec i (s.withInputs rest) := by
  have hfetch : decodeMicro (s.withInputs rest).fetchWord = .ok i := by
    rw [fetchWord_eq (s := s.withInputs rest) hrom, State.withInputs_upc, hupc, hcode]
  exact (step_of_cons hin).trans (blockStep_of_decode hfetch)

theorem run_block {n : Nat} {s u t : State} (a : Byte) (i : Instr) {rest : List Input} (hrom : s.romPatch = []) (hupc : s.upc = a)
    (hin : s.env.inputs = .block :: rest) (hcode : decodeMicro (romWord [] a) = .ok i) (hexec : exec i (s.withInputs rest) = .next u)
    (h : run n u = .next t) : run (n + 1) s = .next t :=
  run_step ((step_block a i hrom hupc hin hcode).trans hexec) h

/-- The state in which the command `c` starts at `entry`, with `rest` to come. -/
def started (s : State) (c entry : Byte) (rest : List Input) : State :=
  { s with cmd := none, events := .cmd c :: s.events, status := { s.status with busy := true }, upc := entry, env := { s.env with inputs := rest } }

/-- The host's write of a command that an idle block accepts at `entry`. -/
theorem run_command {n : Nat} {s t : State} {c entry : Byte} {rest : List Input} (hin : s.env.inputs = .host (.writeCmd c) :: rest)
    (hidle : s.status.busy = false) (haccept : ∀ u : State, u.status = s.status → u.bind = s.bind →
      u.dispatchCommand c = (u.emit (.cmd c)).accept entry)
    (h : run n (started s c entry rest) = .next t) : run (n + 1) s = .next t := by
  have hstep : step s = .next (started s c entry rest) :=
    calc step s = commandStep c (s.withInputs rest) := step_of_cons hin
      _ = hostWriteCmd c (s.withInputs rest) := commandStep_eq c _
      _ = _ := (hostWriteCmd_idle (s := s.withInputs rest) hidle).trans (congrArg _ (haccept _ rfl rfl))
  exact run_step hstep h

theorem blocks_succ (n : Nat) : blocks (n + 1) = .block :: blocks n := rfl

theorem blocks_add (m n : Nat) : blocks (m + n) = blocks m ++ blocks n := List.replicate_add m n _

/-! ## Polls (40_sync.md R100 to R102) -/

/-- The state after polls that saw the given lines, with the program counter where it was. -/
def pollAll (s : State) : List (Bool × Bool) → State
  | [] => s
  | a :: as => pollAll (s.driveLines a.1 a.2).statusRead as

theorem pollAll_append (s : State) (l m : List (Bool × Bool)) : pollAll s (l ++ m) = pollAll (pollAll s l) m := by
  induction l generalizing s with
  | nil => rfl
  | cons a l ih => exact ih _

theorem pollAll_withInputs (s : State) (l : List (Bool × Bool)) (rest : List Input) :
    pollAll (s.withInputs rest) l = (pollAll s l).withInputs rest := by
  induction l generalizing s with
  | nil => rfl
  | cons a l ih => exact ih (s.driveLines a.1 a.2).statusRead

theorem pollAll_jump (s : State) (l : List (Bool × Bool)) (a : Byte) : pollAll (s.jump a) l = (pollAll s l).jump a := by
  induction l generalizing s with
  | nil => rfl
  | cons b l ih => exact ih (s.driveLines b.1 b.2).statusRead

/-- Polls log their answers, and beside the history only the lines and the latch move. -/
theorem pollAll_frame (s : State) (l : List (Bool × Bool)) :
    pollAll s l = { s with events := (statusReads l).reverse ++ s.events,
                           adapter := { s.adapter with vr := (pollAll s l).adapter.vr, de := (pollAll s l).adapter.de,
                                                       saLatched := (pollAll s l).adapter.saLatched } } := by
  induction l generalizing s with
  | nil => rfl
  | cons a l ih =>
    refine (ih _).trans ?_
    simp [pollAll, statusReads]

/-- One poll at the address `a`: the adapter sets its lines, the block reads them. -/
theorem run_poll {n : Nat} {s t : State} {i : Instr} {a : Byte} {stay : Bool} {b : Bool × Bool} {rest : List Input} (hrom : s.romPatch = [])
    (hupc : s.upc = a) (hin : s.env.inputs = polls [b] ++ rest) (hcode : decodeMicro (romWord [] a) = .ok i)
    (hexec : ∀ u : State, u.adapter = (s.driveLines b.1 b.2).adapter → exec i u = .next (u.statusRead.advanceUnless stay))
    (h : run n (((pollAll s [b]).jump (if stay then a else a + 1#8)).withInputs rest) = .next t) : run (n + 2) s = .next t := by
  have hlines : step s = .next ((s.withInputs (.block :: rest)).driveLines b.1 b.2) := step_of_cons hin
  refine run_step hlines (run_block a i hrom hupc rfl hcode (hexec _ rfl) ?_)
  subst hupc
  exact h

/-- What a poll instruction does, whatever the state: it reads the lines and stays where `stays` says so. -/
def Polls (i : Instr) (stays : Adapter → Bool) : Prop := ∀ u : State, exec i u = .next (u.statusRead.advanceUnless (stays u.adapter))

/-- The polls of one line at the address `a`: the first ones keep it there, the last one goes on. -/
theorem run_polls {n : Nat} {s t : State} (a : Byte) (i : Instr) {stays : Adapter → Bool} {l : List (Bool × Bool)} {last : Bool × Bool}
    {rest : List Input} (hrom : s.romPatch = []) (hupc : s.upc = a) (hin : s.env.inputs = polls (l ++ [last]) ++ rest)
    (hcode : decodeMicro (romWord [] a) = .ok i) (hpolls : Polls i stays)
    (hstays : ∀ b ∈ l, ∀ u : State, stays (u.driveLines b.1 b.2).adapter = true)
    (hleaves : ∀ u : State, stays (u.driveLines last.1 last.2).adapter = false)
    (h : run n (((pollAll s (l ++ [last])).jump (a + 1#8)).withInputs rest) = .next t) : run (n + 2 * (l.length + 1)) s = .next t := by
  induction l generalizing s with
  | nil =>
    refine run_poll (stay := false) hrom hupc hin hcode (fun u hu => ?_) h
    rw [hpolls u, hu, hleaves]
  | cons b l ih =>
    refine run_poll (n := n + 2 * (l.length + 1)) (stay := true) (rest := polls (l ++ [last]) ++ rest) hrom hupc hin hcode (fun u hu => ?_)
      (ih hrom rfl rfl (fun c hc => hstays c (List.mem_cons_of_mem b hc)) ?_)
    · rw [hpolls u, hu, hstays b List.mem_cons_self]
    · rw [pollAll_withInputs, pollAll_jump]
      exact h

/-! ## wait_vsync (40_sync.md R104) -/

/-- Polls that all read VR = 0 leave it there. -/
theorem vr_pollAll_of_low {s : State} (l : List Bool) (h : s.adapter.vr = false) : (pollAll s (l.map (false, ·))).adapter.vr = false := by
  induction l generalizing s with
  | nil => exact h
  | cons d l ih => exact ih rfl

/-- The start address is made of registers and parameters that polls leave alone. -/
theorem startAddress_pollAll (s : State) (l : List (Bool × Bool)) : (pollAll s l).startAddress = s.startAddress := by
  rw [pollAll_frame s l]
  rfl

/-- The state after a wait_vsync that saw the given answers, the last one with DE = `d1`. -/
def waited (s : State) (answers : List (Bool × Bool)) (d1 : Bool) (rest : List Input) : State :=
  { s with upc := s.ret, events := (statusReads answers).reverse ++ s.events, env := { s.env with inputs := rest },
           adapter := { s.adapter with vr := true, de := d1, saLatched := s.startAddress } }

/-- The wait ends at a rise of VR, which latches the start address. -/
theorem pollAll_waitAnswers (s : State) (inRetrace noRetrace : List Bool) (d0 d1 : Bool) :
    pollAll s (waitAnswers inRetrace d0 noRetrace d1)
      = { s with events := (statusReads (waitAnswers inRetrace d0 noRetrace d1)).reverse ++ s.events,
                 adapter := { s.adapter with vr := true, de := d1, saLatched := s.startAddress } } := by
  have hlast : ∃ u : State, u.adapter.vr = false ∧ u.startAddress = s.startAddress
      ∧ pollAll s (waitAnswers inRetrace d0 noRetrace d1) = (u.driveLines true d1).statusRead := by
    refine ⟨pollAll (pollAll s (inRetrace.map (true, ·) ++ [(false, d0)])) (noRetrace.map (false, ·)), vr_pollAll_of_low _ ?_, ?_, ?_⟩
    · rw [pollAll_append]; rfl
    · rw [startAddress_pollAll, startAddress_pollAll]
    · rw [waitAnswers, pollAll_append, pollAll_append]; rfl
  obtain ⟨u, hvr, haddr, hpoll⟩ := hlast
  have hadapter : (pollAll s (waitAnswers inRetrace d0 noRetrace d1)).adapter.saLatched = s.startAddress :=
    (congrArg (·.adapter.saLatched) hpoll).trans ((saLatched_driveLines_of_rise d1 hvr).trans haddr)
  rw [pollAll_frame s, hadapter]
  simp [hpoll]

theorem polls_append (l m : List (Bool × Bool)) : polls (l ++ m) = polls l ++ polls m := List.flatMap_append

theorem polls_wvlo : Polls .wvlo wvloStays := fun _ => rfl

theorem polls_wvhi : Polls .wvhi wvhiStays := fun _ => rfl

theorem polls_wde : Polls .wde wdeStays := fun _ => rfl

/-- The subroutine wait_vsync, from its entry to the return. -/
theorem run_waitVsync {n : Nat} {s t : State} {inRetrace noRetrace : List Bool} {d0 d1 : Bool} {rest : List Input} (hrom : s.romPatch = [])
    (hupc : s.upc = 0x01#8) (hin : s.env.inputs = polls (waitAnswers inRetrace d0 noRetrace d1) ++ .block :: rest)
    (h : run n (waited s (waitAnswers inRetrace d0 noRetrace d1) d1 rest) = .next t) :
    run (2 * (inRetrace.length + noRetrace.length) + 5 + n) s = .next t := by
  have hsplit : waitAnswers inRetrace d0 noRetrace d1 = (inRetrace.map (true, ·) ++ [(false, d0)]) ++ (noRetrace.map (false, ·) ++ [(true, d1)]) := by
    rw [waitAnswers, List.append_assoc]
  have hcount : 2 * (inRetrace.length + noRetrace.length) + 5 + n
      = n + 1 + 2 * ((noRetrace.map (false, ·)).length + 1) + 2 * ((inRetrace.map (true, ·)).length + 1) := by
    simp only [List.length_map]
    omega
  rw [hsplit, polls_append, List.append_assoc] at hin
  rw [hcount]
  refine run_polls 0x01#8 .wvlo hrom hupc hin (by decide) polls_wvlo (by simp [wvloStays]) (by simp [wvloStays]) ?_
  refine run_polls 0x02#8 .wvhi (n := n + 1) (by rw [pollAll_frame s]; exact hrom) rfl rfl (by decide) polls_wvhi (by simp [wvhiStays]) (by simp [wvhiStays]) ?_
  rw [pollAll_withInputs, pollAll_jump, ← pollAll_append, ← hsplit, pollAll_waitAnswers]
  exact run_block 0x03#8 .ret hrom rfl rfl (by decide) (exec_ret _) h

/-- The call of wait_vsync at the address `a`, to the return after it. -/
theorem run_callWait {n : Nat} {s t : State} (a : Byte) {inRetrace noRetrace : List Bool} {d0 d1 : Bool} {rest : List Input}
    (hrom : s.romPatch = []) (hupc : s.upc = a) (hin : s.env.inputs = .block :: (polls (waitAnswers inRetrace d0 noRetrace d1) ++ .block :: rest))
    (hcode : decodeMicro (romWord [] a) = .ok (.call 0x01#8))
    (h : run n (waited { s with ret := a + 1#8 } (waitAnswers inRetrace d0 noRetrace d1) d1 rest) = .next t) :
    run (2 * (inRetrace.length + noRetrace.length) + 6 + n) s = .next t := by
  have hcount : 2 * (inRetrace.length + noRetrace.length) + 6 + n = 2 * (inRetrace.length + noRetrace.length) + 5 + n + 1 := by omega
  subst hupc
  rw [hcount]
  exact run_block s.upc (.call 0x01#8) hrom rfl hin hcode (exec_call _ _) (run_waitVsync hrom rfl rfl h)

/-! ## The statements -/

theorem run_zero (s : State) : run 0 s = .next s := rfl

/-- Settles O11: the two polls and the return. -/
theorem waitVsyncContract : Obligations.WaitVsyncContract := by
  intro s inRetrace noRetrace d0 d1 rest hrom hupc hin
  refine ⟨_, run_waitVsync (n := 0) hrom hupc hin (run_zero _), ?history, rfl, rfl⟩
  case history => simp [State.history, waited]

/-- Settles O12: the command calls wait_vsync with DONE as its return address. -/
theorem waitvRunsOneWait : Obligations.WaitvRunsOneWait := by
  intro s inRetrace noRetrace d0 d1 rest hrom hupc hidle hcmd hin
  refine ⟨_, run_command hin hidle (fun u _ _ => dispatchCommand_waitv u) (run_callWait (n := 1) 0x04#8 hrom rfl rfl (by decide)
    (run_block 0x05#8 .done hrom rfl rfl (by decide) (exec_done _) (run_zero _))), ?history, ?frame⟩
  case history => simp [State.history, waited, started]
  case frame =>
    have hstatus : { s.status with busy := false } = s.status := by rw [← hidle]
    simp [waited, started, State.complete, hcmd, hupc, hstatus]

end Sys2Proof.Claims
end


section
/-! PROOF. Runs of the five loops of the micro-program (10_state.md R16), each in closed form, and the statements about the pack phase (41_cga_presenter.md R110) and the slicing of one plane (42_ega_presenter.md R123). -/

namespace Sys2Proof.Claims

open Sys2Proof.Machine

/-! ## Stores in a row -/

/-- The memory after the stores `v 0`, …, `v (k - 1)` at the offsets `off 0`, …, `off (k - 1)`. Irreducible, so that no check unrolls thousands of stores. -/
@[irreducible] def writeSeq (m : Memory) (off : Nat → Nat) (v : Nat → Byte) (k : Nat) : Memory :=
  (List.range k).foldl (fun m i => m.write (off i) (v i)) m

theorem writeSeq_zero (m : Memory) (off : Nat → Nat) (v : Nat → Byte) : writeSeq m off v 0 = m := by
  simp [writeSeq]

theorem writeSeq_succ (m : Memory) (off : Nat → Nat) (v : Nat → Byte) (k : Nat) :
    writeSeq m off v (k + 1) = (writeSeq m off v k).write (off k) (v k) := by
  simp [writeSeq, List.range_succ]

theorem read?_writeSeq_other {m : Memory} {off : Nat → Nat} {v : Nat → Byte} {k a : Nat} (h : ∀ i, i < k → a ≠ off i) :
    (writeSeq m off v k).read? a = m.read? a := by
  induction k with
  | zero => rw [writeSeq_zero]
  | succ k ih =>
    rw [writeSeq_succ, Memory.read?_write_other _ _ (h k (Nat.lt_succ_self k))]
    exact ih fun i hi => h i (Nat.lt_succ_of_lt hi)

theorem read?_writeSeq {m : Memory} {off : Nat → Nat} {v : Nat → Byte} {k i : Nat} (hoff : Function.Injective off) (hi : i < k) :
    (writeSeq m off v k).read? (off i) = some (v i) := by
  induction k with
  | zero => exact absurd hi (Nat.not_lt_zero i)
  | succ k ih =>
    rw [writeSeq_succ, Memory.read?_write]
    split_ifs with heq
    · rw [hoff heq]
    · exact ih (Nat.lt_of_le_of_ne (Nat.le_of_lt_succ hi) fun h => heq (congrArg off h))

/-- The planes after stores in a row in plane `p`, from the offset `page` on. -/
@[irreducible] def writePlane (e : EgaPlanes) (p : Fin 4) (page : Nat) (v : Nat → Byte) (k : Nat) : EgaPlanes :=
  (List.range k).foldl (fun e i => e.write p (page + i) (v i)) e

theorem writePlane_zero (e : EgaPlanes) (p : Fin 4) (page : Nat) (v : Nat → Byte) : writePlane e p page v 0 = e := by
  simp [writePlane]

theorem writePlane_succ (e : EgaPlanes) (p : Fin 4) (page : Nat) (v : Nat → Byte) (k : Nat) :
    writePlane e p page v (k + 1) = (writePlane e p page v k).write p (page + k) (v k) := by
  simp [writePlane, List.range_succ]

theorem plane_writePlane_self (e : EgaPlanes) (p : Fin 4) (page : Nat) (v : Nat → Byte) (k : Nat) :
    (writePlane e p page v k).plane p = writeSeq (e.plane p) (page + ·) v k := by
  induction k with
  | zero => rw [writePlane_zero, writeSeq_zero]
  | succ k ih => rw [writePlane_succ, EgaPlanes.plane_write, if_pos rfl, ih, writeSeq_succ]

theorem plane_writePlane_other (e : EgaPlanes) {p q : Fin 4} (page : Nat) (v : Nat → Byte) (k : Nat) (h : q ≠ p) :
    (writePlane e p page v k).plane q = e.plane q := by
  induction k with
  | zero => rw [writePlane_zero]
  | succ k ih => rw [writePlane_succ, EgaPlanes.plane_write, if_neg h, ih]

/-- The stored bytes, plane `p` from `page` on, and every other byte as before. -/
theorem read?_writePlane (e : EgaPlanes) (p q : Fin 4) (page : Nat) (v : Nat → Byte) (k a : Nat) :
    ((writePlane e p page v k).plane q).read? a
      = if q = p ∧ page ≤ a ∧ a < page + k then some (v (a - page)) else (e.plane q).read? a := by
  by_cases hq : q = p
  · subst hq
    rw [plane_writePlane_self]
    by_cases ha : page ≤ a ∧ a < page + k
    · obtain ⟨i, rfl⟩ := Nat.exists_eq_add_of_le ha.1
      rw [if_pos ⟨rfl, ha⟩, Nat.add_sub_cancel_left]
      exact read?_writeSeq (add_right_injective page) (by omega)
    · rw [if_neg fun h => ha h.2]
      exact read?_writeSeq_other fun i hi heq => ha (by omega)
  · rw [if_neg fun h => hq h.1, plane_writePlane_other _ _ _ _ hq]

/-- Events in a row, newest first. -/
@[irreducible] def eventSeq (e : Nat → Event) (k : Nat) : List Event := ((List.range k).map e).reverse

theorem eventSeq_zero (e : Nat → Event) : eventSeq e 0 = [] := by
  simp [eventSeq]

theorem eventSeq_succ (e : Nat → Event) (k : Nat) : eventSeq e (k + 1) = e k :: eventSeq e k := by
  simp [eventSeq, List.range_succ]

theorem reverse_eventSeq {e f : Nat → Event} {k : Nat} (h : ∀ i, i < k → e i = f i) : (eventSeq e k).reverse = (List.range k).map f := by
  rw [eventSeq, List.reverse_reverse]
  exact List.map_congr_left fun i hi => h i (List.mem_range.mp hi)

/-! ## A loop of the micro-program (10_state.md R16) -/

/-- `s` at index `k` of a loop, with the moves `l` to come. -/
def inLoop (s : State) (k : Nat) (l : List Input) : State := { s with idx := BitVec.ofNat 14 k, env := { s.env with inputs := l } }

/-- `s` after the last step of its loop, with the moves `l` to come. -/
def afterLoop (s : State) (l : List Input) : State := { s with idx := 0#14, upc := s.upc + 1#8, env := { s.env with inputs := l } }

theorem idx_inLoop {k : Nat} (hk : k < 16384) (s : State) (l : List Input) : (inLoop s k l).idx.toNat = k :=
  (BitVec.toNat_ofNat k 14).trans (Nat.mod_eq_of_lt hk)

theorem loopNext_inLoop {last k : Nat} (hlast : last < 16383) (hk : k ≤ last) (s : State) (l : List Input) :
    (inLoop s k l).loopNext last = if k = last then afterLoop s l else inLoop s (k + 1) l := by
  have hidx := idx_inLoop (show k < 16384 by omega) s l
  split_ifs with h
  · have hend : (inLoop s k l).idx.toNat = last := hidx.trans h
    simp only [State.loopNext, hend, if_true]
    rfl
  · have hnext : (inLoop s k l).idx + 1#14 = BitVec.ofNat 14 (k + 1) := (BitVec.ofNat_add k 1).symm
    simp only [State.loopNext, hidx, h, if_false, hnext]
    rfl

/-- The loop at the address `a`: where the step at each index `k` leads from the contents `F k` to `F (k + 1)`, the block's steps lead from `F 0` to `F (last + 1)`. -/
theorem run_inLoop {last : Nat} (a : Byte) (i : Instr) {F : Nat → State} (hlast : last < 16383) (hrom : ∀ k, (F k).romPatch = [])
    (hupc : ∀ k, (F k).upc = a) (hcode : decodeMicro (romWord [] a) = .ok i)
    (hexec : ∀ k l, k ≤ last → (inLoop (F k) k l).idx.toNat = k → exec i (inLoop (F k) k l) = .next ((inLoop (F (k + 1)) k l).loopNext last))
    (rest : List Input) :
    run (last + 1) (inLoop (F 0) 0 (blocks (last + 1) ++ rest)) = .next (afterLoop (F (last + 1)) rest) := by
  have hstep (k : Nat) (m : List Input) (hk : k ≤ last) :
      step (inLoop (F k) k (.block :: m)) = .next (if k = last then afterLoop (F (k + 1)) m else inLoop (F (k + 1)) (k + 1) m) :=
    calc step (inLoop (F k) k (.block :: m)) = exec i (inLoop (F k) k m) := step_block a i (hrom k) (hupc k) rfl hcode
      _ = .next ((inLoop (F (k + 1)) k m).loopNext last) := hexec k m hk (idx_inLoop (by omega) _ m)
      _ = _ := congrArg _ (loopNext_inLoop hlast hk _ m)
  have hrun (k : Nat) (hk : k ≤ last) :
      run k (inLoop (F 0) 0 (blocks (last + 1) ++ rest)) = .next (inLoop (F k) k (blocks (last + 1 - k) ++ rest)) := by
    induction k with
    | zero => rfl
    | succ k ih =>
      refine run_then (ih (by omega)) (run_step (u := inLoop (F (k + 1)) (k + 1) (blocks (last + 1 - (k + 1)) ++ rest)) ?_ (run_zero _))
      rw [show last + 1 - k = last + 1 - (k + 1) + 1 by omega]
      exact (hstep k _ (by omega)).trans (congrArg _ (if_neg (by omega)))
  refine run_then (hrun last le_rfl) (run_step ?_ (run_zero _))
  rw [Nat.add_sub_cancel_left]
  exact (hstep last rest le_rfl).trans (congrArg _ (if_pos rfl))

theorem eq_inLoop {s : State} (h : s.idx.toNat = 0) : s = inLoop s 0 s.env.inputs := by
  have hidx : s.idx = 0#14 := BitVec.eq_of_toNat_eq h
  rw [inLoop, ← hidx]

/-- A loop entered with IDX = 0, and what runs after it. -/
theorem run_loop {last n : Nat} (a : Byte) (i : Instr) {F : Nat → State} {s t : State} {rest : List Input} (hlast : last < 16383)
    (hzero : F 0 = s) (hrom : ∀ k, (F k).romPatch = []) (hupc : ∀ k, (F k).upc = a) (hidx : s.idx.toNat = 0)
    (hin : s.env.inputs = blocks (last + 1) ++ rest) (hcode : decodeMicro (romWord [] a) = .ok i)
    (hexec : ∀ k l, k ≤ last → (inLoop (F k) k l).idx.toNat = k → exec i (inLoop (F k) k l) = .next ((inLoop (F (k + 1)) k l).loopNext last))
    (h : run n (afterLoop (F (last + 1)) rest) = .next t) : run (n + (last + 1)) s = .next t := by
  have hloop := run_inLoop a i hlast hrom hupc hcode hexec rest
  rw [hzero, ← hin, ← eq_inLoop hidx] at hloop
  exact Nat.add_comm _ n ▸ run_then hloop h

/-! ## PACK (41_cga_presenter.md R110) -/

/-- `s` with the first `k` pairs packed. -/
def packed (s : State) (k : Nat) : State := { s with stage := writeSeq s.stage id (packedPair s) k }

theorem exec_pack_of_pixels {s : State} (hidx : s.idx.toNat < 8000) (hpix : s.lfbPixels) :
    exec .pack s = .next ((s.writeStage s.idx.toNat (packedPair s s.idx.toNat)).loopNext 7999) := by
  have h0 : (s.lfbAt (2 * s.idx.toNat)).toNat ≤ 15 := hpix _ (show 2 * s.idx.toNat < 16000 by omega)
  have h1 : (s.lfbAt (2 * s.idx.toNat + 1)).toNat ≤ 15 := hpix _ (show 2 * s.idx.toNat + 1 < 16000 by omega)
  have hpair : s.packPair s.idx.toNat = s.writeStage s.idx.toNat (packedPair s s.idx.toNat) :=
    (State.packPair_of_pixels h0 h1).trans (congrArg _ (packByte_eq_nibbles _ h0))
  rw [exec_pack hidx, hpair]

/-- The pack phase: the block's 8000 steps at 0x08. -/
theorem run_pack {n : Nat} {s t : State} {rest : List Input} (hrom : s.romPatch = []) (hupc : s.upc = 0x08#8) (hidx : s.idx.toNat = 0)
    (hin : s.env.inputs = blocks 8000 ++ rest) (hpix : s.lfbPixels) (h : run n (afterLoop (packed s 8000) rest) = .next t) :
    run (n + 8000) s = .next t := by
  refine run_loop (F := packed s) 0x08#8 .pack (by decide) (by rw [packed, writeSeq_zero]) (fun _ => hrom) (fun _ => hupc) hidx hin (by decide)
    (fun k l hk hidx => ?step) h
  case step =>
    have hstep := exec_pack_of_pixels (s := inLoop (packed s k) k l) (by omega) hpix
    rw [hidx] at hstep
    rw [hstep, packed, packed, writeSeq_succ]
    rfl

theorem read?_packed (s : State) {k i : Nat} (hi : i < k) : (packed s k).stage.read? i = some (packedPair s i) :=
  read?_writeSeq (off := id) Function.injective_id hi

theorem read?_packed_of_ge (s : State) {k i : Nat} (hi : k ≤ i) : (packed s k).stage.read? i = s.stage.read? i :=
  read?_writeSeq_other fun _ hj => Nat.ne_of_gt (Nat.lt_of_lt_of_le hj hi)

/-- Settles O16: the stores are the packed pairs in a row. -/
theorem packPhaseFillsStage : Obligations.PackPhaseFillsStage := by
  intro s rest hrom hupc hidx hpix hin
  refine ⟨_, run_pack (n := 0) hrom hupc hidx hin hpix (run_zero _), fun i => read?_packed s, fun i => read?_packed_of_ge s, ?frame⟩
  case frame =>
    have hzero : s.idx = 0#14 := BitVec.eq_of_toNat_eq hidx
    simp [afterLoop, packed, hzero, hupc]

/-! ## COPY (41_cga_presenter.md R111) -/

/-- `s` with the first `k` bytes of STAGE copied to the odd offsets of CGAHW. -/
def copied (s : State) (k : Nat) : State :=
  { s with adapter := { s.adapter with cgahw := writeSeq s.adapter.cgahw (2 * · + 1) s.stageAt k },
           events := eventSeq (fun i => .hwWriteCga (2 * i + 1) (s.stageAt i)) k ++ s.events }

/-- The copy phase: the block's 8000 steps at 0x0A. -/
theorem run_copy {n : Nat} {s t : State} {rest : List Input} (hrom : s.romPatch = []) (hupc : s.upc = 0x0A#8) (hidx : s.idx.toNat = 0)
    (hin : s.env.inputs = blocks 8000 ++ rest) (h : run n (afterLoop (copied s 8000) rest) = .next t) : run (n + 8000) s = .next t := by
  refine run_loop (F := copied s) 0x0A#8 .copy (by decide) (by rw [copied, writeSeq_zero, eventSeq_zero]; rfl) (fun _ => hrom) (fun _ => hupc)
    hidx hin (by decide) (fun k l hk hidx => ?step) h
  case step =>
    have hstep := exec_copy (s := inLoop (copied s k) k l) (by omega)
    rw [hidx] at hstep
    rw [hstep, copied, copied, writeSeq_succ, eventSeq_succ]
    rfl

/-! ## SLICE (42_ega_presenter.md R122, R123) -/

/-- `s` with the first `k` bytes of plane `p` written in the region at PAGE_ACT. -/
def sliced (s : State) (p : Fin 4) (k : Nat) : State :=
  { s with adapter := { s.adapter with egahw := writePlane s.adapter.egahw p s.pageAct.toNat (planeByte s · p.val) k },
           events := eventSeq (fun i => .hwWriteEga p (s.pageAct.toNat + i) (planeByte s i p.val)) k ++ s.events }

/-- The slicing of a plane that is counted and selected: the block's 8000 steps at 0x12. -/
theorem run_slice {n : Nat} {s t : State} {p : Fin 4} {rest : List Input} (hrom : s.romPatch = []) (hupc : s.upc = 0x12#8)
    (hidx : s.idx.toNat = 0) (hin : s.env.inputs = blocks 8000 ++ rest) (hpl : s.pl.toNat = p.val) (hsel : s.adapter.plane = some p)
    (hfit : s.pageAct.toNat + 8000 ≤ s.cfg.egaPlaneSize) (h : run n (afterLoop (sliced s p 8000) rest) = .next t) :
    run (n + 8000) s = .next t := by
  refine run_loop (F := sliced s p) 0x12#8 .slice (by decide) (by rw [sliced, writePlane_zero, eventSeq_zero]; rfl) (fun _ => hrom)
    (fun _ => hupc) hidx hin (by decide) (fun k l hk hidx => ?step) h
  case step =>
    have hoff : (inLoop (sliced s p k) k l).pageAct.toNat + (inLoop (sliced s p k) k l).idx.toNat < s.cfg.egaPlaneSize := by
      rw [hidx]
      exact Nat.lt_of_lt_of_le (Nat.add_lt_add_left (Nat.lt_succ_of_le hk) s.pageAct.toNat) hfit
    have hstep := exec_slice (s := inLoop (sliced s p k) k l) (q := p) (by omega) hpl hsel hoff
    rw [hidx] at hstep
    rw [hstep, show (inLoop (sliced s p k) k l).pl.toNat = p.val from hpl, sliced, sliced, writePlane_succ, eventSeq_succ]
    rfl

/-- The byte of a group and of either physical row of its logical row (42_ega_presenter.md R123). -/
theorem planeByte_doubled (s : State) {y g d : Nat} (p : Nat) (hg : g < 40) (hd : d < 2) :
    planeByte s (40 * (2 * y + d) + g) p
      = sliceByte (s.lfbAt (160 * y + 4 * g)) (s.lfbAt (160 * y + 4 * g + 1)) (s.lfbAt (160 * y + 4 * g + 2)) (s.lfbAt (160 * y + 4 * g + 3)) p := by
  have hsource (k : Nat) : source (40 * (2 * y + d) + g) k = 160 * y + 4 * g + k := by
    rw [source, Nat.mul_add_mod, Nat.mod_eq_of_lt hg, Nat.mul_add_div (by decide), Nat.div_eq_of_lt hg]
    omega
  rw [sliceByte_eq_ofBoolListBE, planeByte, hsource, hsource, hsource, hsource, Nat.add_zero]

/-- Settles O22: the bytes written are those of the region at PAGE_ACT, in one plane. -/
theorem slicePhaseWritesDoubledRows : Obligations.SlicePhaseWritesDoubledRows := by
  intro s p rest hrom hupc hidx hpl hsel hfit hin
  have hread (q : Fin 4) (a : Nat) := read?_writePlane s.adapter.egahw p q s.pageAct.toNat (planeByte s · p.val) 8000 a
  refine ⟨_, run_slice (n := 0) hrom hupc hidx hin hpl hsel hfit (run_zero _), fun y g d hy hg hd => ?rows, fun q a h => ?others, ?frame⟩
  case rows =>
    refine (hread p _).trans ((if_pos ⟨rfl, by omega, by omega⟩).trans (congrArg some ?_))
    rw [Nat.add_assoc, Nat.add_sub_cancel_left]
    exact planeByte_doubled s p.val hg hd
  case others =>
    refine (hread q a).trans (if_neg fun hw => ?_)
    exact h.elim (fun hq => hq hw.1) fun hregion => hregion hw.2
  case frame =>
    have hzero : s.idx = 0#14 := BitVec.eq_of_toNat_eq hidx
    simp [afterLoop, sliced, hzero, hupc]

/-! ## STAMP and LFBCLR (43_detector.md R155, R156) -/

/-- `s` with the first `k` bytes of CGAHW stamped. -/
def stamped (s : State) (k : Nat) : State :=
  { s with adapter := { s.adapter with cgahw := writeSeq s.adapter.cgahw id stampByte k },
           events := eventSeq (fun i => .hwWriteCga i (stampByte i)) k ++ s.events }

/-- The stamping of CGAHW: the block's 16000 steps at 0x2A. -/
theorem run_stamp {n : Nat} {s t : State} {rest : List Input} (hrom : s.romPatch = []) (hupc : s.upc = 0x2A#8) (hidx : s.idx.toNat = 0)
    (hin : s.env.inputs = blocks 16000 ++ rest) (h : run n (afterLoop (stamped s 16000) rest) = .next t) : run (n + 16000) s = .next t := by
  refine run_loop (F := stamped s) 0x2A#8 .stamp (by decide) (by rw [stamped, writeSeq_zero, eventSeq_zero]; rfl) (fun _ => hrom)
    (fun _ => hupc) hidx hin (by decide) (fun k l hk hidx => ?step) h
  case step =>
    have hstep := exec_stamp (s := inLoop (stamped s k) k l) (by omega)
    rw [hidx] at hstep
    rw [hstep, stamped, stamped, writeSeq_succ, eventSeq_succ]
    rfl

/-- `s` with the first `k` cells of the LFB cleared. -/
def cleared (s : State) (k : Nat) : State := { s with lfb := writeSeq s.lfb id (fun _ => 0x00#8) k }

/-- The clearing of the LFB: the block's 16000 steps at the address `a` of an LFBCLR. -/
theorem run_clear {n : Nat} {s t : State} (a : Byte) {rest : List Input} (hrom : s.romPatch = []) (hupc : s.upc = a) (hidx : s.idx.toNat = 0)
    (hin : s.env.inputs = blocks 16000 ++ rest) (hcode : decodeMicro (romWord [] a) = .ok .lfbclr)
    (h : run n (afterLoop (cleared s 16000) rest) = .next t) : run (n + 16000) s = .next t := by
  refine run_loop (F := cleared s) a .lfbclr (by decide) (by rw [cleared, writeSeq_zero]) (fun _ => hrom) (fun _ => hupc) hidx hin hcode
    (fun k l hk hidx => ?step) h
  case step =>
    have hstep := exec_lfbclr (s := inLoop (cleared s k) k l) (by omega)
    rw [hidx] at hstep
    rw [hstep, cleared, cleared, writeSeq_succ]
    rfl

theorem read?_cleared (s : State) {k i : Nat} (hi : i < k) : (cleared s k).lfb.read? i = some 0x00#8 :=
  read?_writeSeq (off := id) Function.injective_id hi

end Sys2Proof.Claims
end


section
/-! PROOF. Two whole commands from the write of CMD to Done: RESTORE (44_host_interface.md R173) and PRESENT.CGA (41_cga_presenter.md R112). -/

namespace Sys2Proof.Claims

open Sys2Proof.Machine

/-- Settles O48: SMODE 0 and DONE. -/
theorem restoreReturnsToText : Obligations.RestoreReturnsToText := by
  intro s rest hrom hupc hidle hin
  refine ⟨_, run_command (rest := .block :: .block :: rest) hin hidle (fun u _ _ => dispatchCommand_restore u)
    (run_block 0x3C#8 (.smode 0#8) hrom rfl rfl (by decide) (exec_smode (by decide) _)
    (run_block 0x3D#8 .done hrom rfl rfl (by decide) (exec_done _) (run_zero _))), ?history, rfl, rfl, ?status, rfl, rfl, rfl, rfl⟩
  case history => simp [State.history, started, selectedMode]
  case status => simp [started, ← hidle]

/-! ## PRESENT.CGA -/

theorem blocks_succ_append (n : Nat) (l : List Input) : blocks (n + 1) ++ l = blocks n ++ .block :: l := by
  rw [blocks_add, List.append_assoc]
  rfl

theorem stageAt_packed (s : State) {k i : Nat} (hi : i < k) : (packed s k).stageAt i = packedPair s i := by
  rw [State.stageAt, read?_packed s hi, Option.getD_some]

/-- The state before COPY: STAGE packed, one wait_vsync done. -/
def packedAndWaited (s : State) (answers : List (Bool × Bool)) (d1 : Bool) (rest : List Input) : State :=
  waited { packed s 8000 with upc := 0x09#8, idx := 0#14, ret := 0x0A#8 } answers d1 rest

/-- The state after PRESENT.CGA. -/
def cgaShown (s : State) (answers : List (Bool × Bool)) (d1 : Bool) (rest : List Input) : State :=
  (afterLoop (copied (packedAndWaited (started s 0x02#8 0x08#8 rest) answers d1 rest) 8000) rest).complete

/-- The frame goes through STAGE to the odd offsets of CGAHW. -/
theorem read?_cgaShown (s : State) (answers : List (Bool × Bool)) (d1 : Bool) (rest : List Input) {i : Nat} (hi : i < 8000) :
    (cgaShown s answers d1 rest).stage.read? i = some (packedPair s i)
      ∧ (cgaShown s answers d1 rest).adapter.cgahw.read? (2 * i + 1) = some (packedPair s i)
      ∧ (cgaShown s answers d1 rest).adapter.cgahw.read? (2 * i) = s.adapter.cgahw.read? (2 * i) := by
  have hodd : Function.Injective (2 * · + 1 : Nat → Nat) := fun i j (h : 2 * i + 1 = 2 * j + 1) => by omega
  refine ⟨read?_packed (started s 0x02#8 0x08#8 rest) hi, ?odd, ?even⟩
  case odd => exact (read?_writeSeq hodd hi).trans (congrArg some (stageAt_packed (started s 0x02#8 0x08#8 rest) hi))
  case even => exact read?_writeSeq_other fun j _ => by omega

theorem history_cgaShown (s : State) (answers : List (Bool × Bool)) (d1 : Bool) (rest : List Input) :
    (cgaShown s answers d1 rest).history = s.history ++ [.cmd 0x02#8] ++ statusReads answers
      ++ (List.range 8000).map (fun i => .hwWriteCga (2 * i + 1) (packedPair s i)) ++ [.done] := by
  have hcopies := reverse_eventSeq (k := 8000)
    (e := fun i => .hwWriteCga (2 * i + 1) ((packedAndWaited (started s 0x02#8 0x08#8 rest) answers d1 rest).stageAt i))
    (f := fun i => .hwWriteCga (2 * i + 1) (packedPair s i)) fun i hi => congrArg _ (stageAt_packed (started s 0x02#8 0x08#8 rest) hi)
  rw [← hcopies]
  simp [cgaShown, copied, afterLoop, State.history, State.complete, packedAndWaited, waited, packed, started]

/-- Settles O17: pack, wait, copy. -/
theorem presentCgaShowsFrame : Obligations.PresentCgaShowsFrame := by
  intro s inRetrace noRetrace d0 d1 rest hrom hupc hidx hidle hbind hpix hin
  have hcopying : blocks 8002 ++ rest = .block :: (blocks 8000 ++ .block :: rest) := by
    rw [blocks_succ 8001, List.cons_append, blocks_succ_append 8000]
  have hmoves : s.env.inputs = .host (.writeCmd 0x02#8) ::
      (blocks 8000 ++ .block :: (polls (waitAnswers inRetrace d0 noRetrace d1) ++ .block :: (blocks 8000 ++ .block :: rest))) := by
    rw [hin, ← hcopying, ← blocks_succ_append 8000]
    simp only [List.cons_append, List.append_assoc]
  refine ⟨cgaShown s (waitAnswers inRetrace d0 noRetrace d1) d1 rest, run_command hmoves hidle (fun u _ h => dispatchCommand_present_cga (h.trans hbind))
    (run_pack hrom rfl hidx rfl hpix
    (run_callWait (n := 8001) 0x09#8 hrom rfl rfl (by decide)
    (run_copy (n := 1) hrom rfl rfl rfl
    (run_block 0x0B#8 .done hrom rfl rfl (by decide) (exec_done _) (run_zero _))))), history_cgaShown _ _ _ _, fun i => read?_cgaShown _ _ _ _,
    rfl, rfl, rfl, rfl, rfl, rfl, ?status⟩
  case status =>
    show { s.status with busy := false } = s.status
    rw [← hidle]

end Sys2Proof.Claims
end


section
/-! PROOF. Segments of the micro-program that lead from one state to another while the moves of a list are taken: their composition, and the segments that PRESENT.EGA and CONFIG are made of. -/

namespace Sys2Proof.Claims

open Sys2Proof.Machine

/-! ## Segments -/

/-- The moves `l` lead from `s` to `t`, whatever moves follow. The moves listed in `s` and `t` themselves play no part. -/
structure Leads (l : List Input) (s t : State) : Prop where
  run_eq : s.romPatch = [] → ∀ rest, run l.length (s.withInputs (l ++ rest)) = .next (t.withInputs rest)
  romPatch_eq : t.romPatch = s.romPatch

theorem Leads.trans {l m : List Input} {s t u : State} (h : Leads l s t) (h' : Leads m t u) : Leads (l ++ m) s u := by
  refine ⟨fun hrom rest => ?_, h'.romPatch_eq.trans h.romPatch_eq⟩
  rw [List.length_append, List.append_assoc]
  exact run_then (h.run_eq hrom _) (h'.run_eq (h.romPatch_eq.trans hrom) rest)

theorem Leads.trans_blocks {m n : Nat} {s t u : State} (h : Leads (blocks m) s t) (h' : Leads (blocks n) t u) : Leads (blocks (m + n)) s u := by
  rw [blocks_add]
  exact h.trans h'

theorem Leads.run_of_inputs {l rest : List Input} {s t : State} {n : Nat} (h : Leads l s t) (hrom : s.romPatch = []) (hin : s.env.inputs = l ++ rest) (hn : n = l.length) :
    run n s = .next (t.withInputs rest) := by
  rw [hn, ← h.run_eq hrom rest, ← hin]
  rfl

theorem length_blocks (n : Nat) : (blocks n).length = n := List.length_replicate

/-- Blocks in a row, before any other moves. -/
theorem blocks_append_append (m n : Nat) (l : List Input) : blocks m ++ (blocks n ++ l) = blocks (m + n) ++ l := by
  rw [blocks_add, List.append_assoc]

/-- The block's move at the address `a` of the ROM. -/
theorem leads_block {s t : State} (a : Byte) (i : Instr) (hcode : decodeMicro (romWord [] a) = .ok i) (hkeeps : t.romPatch = s.romPatch)
    (hexec : ∀ rest, exec i ((s.jump a).withInputs rest) = .next (t.withInputs rest)) : Leads (blocks 1) (s.jump a) t :=
  ⟨fun hrom rest => run_block (s := (s.jump a).withInputs (blocks 1 ++ rest)) a i hrom rfl rfl hcode (hexec rest) (run_zero _), hkeeps⟩

theorem leads_smode {s : State} (a m : Byte) (hm : m.toNat ≤ 1) (hcode : decodeMicro (romWord [] a) = .ok (.smode m)) :
    Leads (blocks 1) (s.jump a) ((s.svcSetMode (selectedMode s.cfg m)).jump (a + 1#8)) :=
  leads_block a (.smode m) hcode rfl fun _ => exec_smode hm _

theorem leads_done {s : State} (a : Byte) (hcode : decodeMicro (romWord [] a) = .ok .done) :
    Leads (blocks 1) (s.jump a) s.complete :=
  leads_block a .done hcode rfl fun _ => exec_done _

/-- The state in which the command `c` runs. -/
def accepted (s : State) (c : Byte) : State := started s c s.upc []

theorem leads_command {s : State} (c entry : Byte) (hidle : s.status.busy = false)
    (haccept : ∀ u : State, u.status = s.status → u.bind = s.bind → u.dispatchCommand c = (u.emit (.cmd c)).accept entry) :
    Leads [.host (.writeCmd c)] s ((accepted s c).jump entry) :=
  ⟨fun _ rest => run_command (s := s.withInputs (.host (.writeCmd c) :: rest)) rfl hidle haccept (run_zero _), rfl⟩

/-! ## Polls and wait_vsync -/

theorem length_polls (l : List (Bool × Bool)) : (polls l).length = 2 * l.length := by
  induction l with
  | nil => rfl
  | cons b l ih => exact congrArg (· + 2) ih

/-- The polls of WDE at 0x16: they go on where the adapter is not mid-scan (42_ega_presenter.md R126). -/
theorem leads_wde {s : State} (midScan : List Bool) (v0 : Bool) :
    Leads (polls (midScan.map (·, true) ++ [(v0, false)])) (s.jump 0x16#8) ((pollAll s (midScan.map (·, true) ++ [(v0, false)])).jump 0x17#8) := by
  refine ⟨fun hrom rest => ?_, congrArg (·.romPatch) (pollAll_frame s _)⟩
  rw [length_polls, List.length_append, List.length_singleton, ← Nat.zero_add (2 * _)]
  refine run_polls 0x16#8 .wde hrom rfl rfl (by decide) polls_wde (by simp [wdeStays]) (by simp [wdeStays]) ?_
  rw [pollAll_withInputs, pollAll_jump]
  exact run_zero _

/-- The moves of a call of wait_vsync. -/
def waitMoves (answers : List (Bool × Bool)) : List Input := blocks 1 ++ (polls answers ++ blocks 1)

theorem length_polls_waitAnswers (inRetrace noRetrace : List Bool) (d0 d1 : Bool) :
    (polls (waitAnswers inRetrace d0 noRetrace d1)).length = 2 * (inRetrace.length + noRetrace.length) + 4 := by
  simp only [waitAnswers, length_polls, List.length_append, List.length_map, List.length_cons, List.length_nil]
  omega

theorem length_waitMoves (inRetrace noRetrace : List Bool) (d0 d1 : Bool) :
    (waitMoves (waitAnswers inRetrace d0 noRetrace d1)).length = 2 * (inRetrace.length + noRetrace.length) + 6 := by
  simp only [waitMoves, List.length_append, length_blocks, length_polls_waitAnswers]
  omega

/-- The state after a wait_vsync that was to return to `back`. -/
def waitedTo (s : State) (back : Byte) (answers : List (Bool × Bool)) (d1 : Bool) : State := waited { s with ret := back } answers d1 []

theorem leads_callWait {s : State} (a : Byte) {inRetrace noRetrace : List Bool} {d0 d1 : Bool}
    (hcode : decodeMicro (romWord [] a) = .ok (.call 0x01#8)) :
    Leads (waitMoves (waitAnswers inRetrace d0 noRetrace d1)) (s.jump a)
      ((waitedTo s (a + 1#8) (waitAnswers inRetrace d0 noRetrace d1) d1).jump (a + 1#8)) := by
  refine ⟨fun hrom rest => ?_, rfl⟩
  rw [length_waitMoves, waitMoves, List.append_assoc, List.append_assoc]
  exact run_callWait (s := (s.jump a).withInputs _) (n := 0) a hrom rfl rfl hcode (run_zero _)

/-! ## Loops -/

theorem afterLoop_eq {s : State} (h : s.idx.toNat = 0) (l : List Input) : afterLoop s l = (s.jump (s.upc + 1#8)).withInputs l := by
  have hidx : s.idx = 0#14 := BitVec.eq_of_toNat_eq h
  rw [afterLoop, ← hidx]
  rfl

/-- A loop of `n` steps at the address `a` that ends with the contents of `t` leads there. -/
theorem leads_loop {n : Nat} {a : Byte} {s t : State} (hidx : t.idx.toNat = 0) (hkeeps : t.romPatch = s.romPatch)
    (hloop : s.romPatch = [] → ∀ rest, run (0 + n) ((s.jump a).withInputs (blocks n ++ rest)) = .next (afterLoop ((t.jump a).withInputs (blocks n ++ rest)) rest)) :
    Leads (blocks n) (s.jump a) (t.jump (a + 1#8)) := by
  refine ⟨fun hrom rest => ?_, hkeeps⟩
  have hrun := hloop hrom rest
  rw [Nat.zero_add, afterLoop_eq (s := (t.jump a).withInputs (blocks n ++ rest)) hidx] at hrun
  rw [length_blocks]
  exact hrun

theorem inputs_withInputs (s : State) (l : List Input) : (s.withInputs l).env.inputs = l := rfl

section
/-! Each is stated for every `k`: a check at a loop's own count would have to tell `s` from the state after thousands of stores. -/
variable (s : State) (p : Fin 4) (k : Nat)

@[simp] theorem idx_sliced : (sliced s p k).idx = s.idx := rfl
@[simp] theorem idx_stamped : (stamped s k).idx = s.idx := rfl
@[simp] theorem idx_cleared : (cleared s k).idx = s.idx := rfl
@[simp] theorem romPatch_sliced : (sliced s p k).romPatch = s.romPatch := rfl
@[simp] theorem romPatch_stamped : (stamped s k).romPatch = s.romPatch := rfl
@[simp] theorem romPatch_cleared : (cleared s k).romPatch = s.romPatch := rfl

theorem sliced_at (a : Byte) (l : List Input) : sliced ((s.jump a).withInputs l) p k = ((sliced s p k).jump a).withInputs l := rfl
theorem stamped_at (a : Byte) (l : List Input) : stamped ((s.jump a).withInputs l) k = ((stamped s k).jump a).withInputs l := rfl
theorem cleared_at (a : Byte) (l : List Input) : cleared ((s.jump a).withInputs l) k = ((cleared s k).jump a).withInputs l := rfl

end

theorem leads_slice {s : State} {p : Fin 4} (hidx : s.idx.toNat = 0) (hpl : s.pl.toNat = p.val)
    (hsel : s.adapter.plane = some p) (hfit : s.pageAct.toNat + 8000 ≤ s.cfg.egaPlaneSize) :
    Leads (blocks 8000) (s.jump 0x12#8) ((sliced s p 8000).jump 0x13#8) := by
  refine leads_loop (t := sliced s p 8000) (by rwa [idx_sliced]) (romPatch_sliced s p _) fun hrom rest => ?_
  rw [← sliced_at]
  exact run_slice hrom rfl hidx (inputs_withInputs _ _) hpl hsel hfit (run_zero _)

theorem leads_stamp {s : State} (hidx : s.idx.toNat = 0) :
    Leads (blocks 16000) (s.jump 0x2A#8) ((stamped s 16000).jump 0x2B#8) := by
  refine leads_loop (t := stamped s 16000) (by rwa [idx_stamped]) (romPatch_stamped s _) fun hrom rest => ?_
  rw [← stamped_at]
  exact run_stamp hrom rfl hidx (inputs_withInputs _ _) (run_zero _)

theorem leads_clear {s : State} (a : Byte) (hidx : s.idx.toNat = 0) (hcode : decodeMicro (romWord [] a) = .ok .lfbclr) :
    Leads (blocks 16000) (s.jump a) ((cleared s 16000).jump (a + 1#8)) := by
  refine leads_loop (t := cleared s 16000) (by rwa [idx_cleared]) (romPatch_cleared s _) fun hrom rest => ?_
  rw [← cleared_at]
  exact run_clear a hrom rfl hidx (inputs_withInputs _ _) hcode (run_zero _)

end Sys2Proof.Claims
end


section
/-! PROOF. CONFIG (43_detector.md R155 to R162, 60_exceptions.md R191, R192): the two questions and the decision, the failure branch, the EGA branch and the CGA branch. -/

namespace Sys2Proof.Claims

open Sys2Proof.Machine

/-! ## The questions and the decision (43_detector.md R160, R162) -/

/-- CONFIG after its question for the switches, before the decision on the answer. -/
def atSwitches (s : State) (sw : Byte) (sws : List Byte) : State :=
  { s with cmd := none, sw := sw, status := { s.status with busy := true },
           events := .querySwitches sw :: .setMode s.cfg.modeText :: .cmd 0x01#8 :: s.events,
           adapter := (s.svcSetMode s.cfg.modeText).adapter,
           env := { s.env with swAnswers := sws, modeCount := s.env.modeCount + 1 } }

/-- CONFIG after its question for the settings, before the decision on the answer. -/
def atSettings (s : State) (sw : Byte) (sws : List Byte) (ds : Byte) (dss : List Byte) : State :=
  { atSwitches s sw sws with
    ds := ds, events := .querySettings ds :: (atSwitches s sw sws).events,
    env := { (atSwitches s sw sws).env with dsAnswers := dss } }

theorem exec_bega_of_mem {s : State} (a : Byte) (h : s.sw ∈ s.cfg.egaCodes) : exec (.bega a) s = .next (s.jump a) := by
  rw [exec_bega, isEgaCode_iff.mpr h]
  rfl

theorem exec_bega_of_not_mem {s : State} (a : Byte) (h : s.sw ∉ s.cfg.egaCodes) : exec (.bega a) s = .next s.advance := by
  rw [exec_bega, Bool.eq_false_iff.mpr (mt isEgaCode_iff.mp h)]
  rfl

theorem exec_bmono_of_eq {s : State} (a : Byte) (h : s.ds = 0x07#8) : exec (.bmono a) s = .next (s.jump a) := by
  rw [exec_bmono, isMono_iff.mpr h]
  rfl

theorem exec_bmono_of_ne {s : State} (a : Byte) (h : s.ds ≠ 0x07#8) : exec (.bmono a) s = .next s.advance := by
  rw [exec_bmono, Bool.eq_false_iff.mpr (mt isMono_iff.mp h)]
  rfl

section
variable {s : State} {sw ds : Byte} {sws dss : List Byte}

theorem leads_toSwitches (hidle : s.status.busy = false) (hcfgd : s.status.cfgd = false)
    (hsw : s.env.swAnswers = sw :: sws) : Leads ([.host (.writeCmd 0x01#8)] ++ blocks (1 + 1)) s ((atSwitches s sw sws).jump 0x22#8) := by
  refine (leads_command 0x01#8 0x20#8 hidle fun u hu _ => dispatchCommand_config (hu ▸ hcfgd)).trans
    ((leads_smode 0x20#8 0#8 (by decide) (by decide)).trans_blocks
    (leads_block 0x21#8 .qsw (by decide) rfl fun _ => ?asked))
  case asked =>
    rw [exec_qsw]
    simp [atSwitches, accepted, started, selectedMode, State.askSwitches, State.advance, State.jump, State.withInputs, hsw, State.svcSetMode]

/-- The EGA class is decided on the switches alone. -/
theorem leads_egaDecision (hega : sw ∈ s.cfg.egaCodes) :
    Leads (blocks 1) ((atSwitches s sw sws).jump 0x22#8) ((atSwitches s sw sws).jump 0x30#8) :=
  leads_block 0x22#8 (.bega 0x30#8) (by decide) rfl fun _ => exec_bega_of_mem _ hega

/-- With any other switches CONFIG asks for the settings. -/
theorem leads_toSettings (hega : sw ∉ s.cfg.egaCodes) (hds : s.env.dsAnswers = ds :: dss) :
    Leads (blocks (1 + 1)) ((atSwitches s sw sws).jump 0x22#8) ((atSettings s sw sws ds dss).jump 0x24#8) := by
  have hgoes : Leads (blocks 1) ((atSwitches s sw sws).jump 0x22#8) ((atSwitches s sw sws).jump 0x23#8) :=
    leads_block 0x22#8 (.bega 0x30#8) (by decide) rfl fun _ => exec_bega_of_not_mem _ hega
  refine hgoes.trans_blocks (leads_block 0x23#8 .qds (by decide) rfl fun _ => ?asked)
  case asked =>
    rw [exec_qds]
    simp [atSettings, atSwitches, State.askSettings, State.advance, State.jump, State.withInputs, hds]

theorem leads_noneDecision (hds : ds = 0x07#8) :
    Leads (blocks 1) ((atSettings s sw sws ds dss).jump 0x24#8) ((atSettings s sw sws ds dss).jump 0x38#8) :=
  leads_block 0x24#8 (.bmono 0x38#8) (by decide) rfl fun _ => exec_bmono_of_eq _ hds

theorem leads_cgaDecision (hds : ds ≠ 0x07#8) :
    Leads (blocks 1) ((atSettings s sw sws ds dss).jump 0x24#8) ((atSettings s sw sws ds dss).jump 0x25#8) :=
  leads_block 0x24#8 (.bmono 0x38#8) (by decide) rfl fun _ => exec_bmono_of_ne _ hds

end

/-! ## The ends of the branches (43_detector.md R157, R158) -/

/-- The state after REPORT and DONE. -/
def reported (s : State) (c : Byte) : State := (s.reportClass c).complete

/-- REPORT at the address `a` and DONE after it. -/
theorem leads_report {s : State} (a c : Byte) (hc : c.toNat ≤ 2)
    (hcode : decodeMicro (romWord [] a) = .ok (.report c)) (hdone : decodeMicro (romWord [] (a + 1#8)) = .ok .done) :
    Leads (blocks (1 + 1)) (s.jump a) (reported s c) := by
  have hreport : Leads (blocks 1) (s.jump a) ((s.reportClass c).jump (a + 1#8)) := leads_block a (.report c) hcode rfl fun _ => exec_report hc _
  exact hreport.trans_blocks (leads_done (a + 1#8) hdone)

/-- Settles O40: neither question finds an adapter, and CONFIG reports class 0. -/
theorem unsupportedAdapterIsReported : Obligations.UnsupportedAdapterIsReported := by
  intro s sw sws dss rest hrom hidle hcfgd hbind hsw hega hds hin
  have hrun := (leads_toSwitches hidle hcfgd hsw).trans ((leads_toSettings hega hds).trans_blocks ((leads_noneDecision rfl).trans_blocks
    (leads_report 0x38#8 0#8 (s := atSettings s sw sws 0x07#8 dss) (by decide) (by decide) (by decide))))
  refine ⟨_, hrun.run_of_inputs hrom hin rfl, ?history, hbind, ?status, rfl, rfl, rfl, ?result⟩
  case history => simp [State.history, reported, atSettings, atSwitches]
  case status => simp [reported, atSettings, atSwitches, hidle]
  case result => simp [reported, atSettings, atSwitches, State.processResult]

/-- `s` with the presenter `b` bound. -/
def boundTo (s : State) (b : BitVec 2) : State := { s with bind := b }

theorem leads_bind {s : State} (a b : Byte) (hb : b = 1#8 ∨ b = 2#8) (hcode : decodeMicro (romWord [] a) = .ok (.bind b)) :
    Leads (blocks 1) (s.jump a) ((boundTo s (bindingOf b)).jump (a + 1#8)) :=
  leads_block a (.bind b) hcode rfl fun _ => exec_bind hb _

/-! ## The EGA branch (43_detector.md R161) -/

/-- The state after the EGA branch. -/
def egaConfigured (s : State) : State := reported (cleared (boundTo (s.svcSetMode (selectedMode s.cfg 1#8)) (bindingOf 2#8)) 16000) 2#8

theorem leads_egaBranch {s : State} (hidx : s.idx.toNat = 0) :
    Leads (blocks (1 + 1) ++ (blocks 16000 ++ blocks (1 + 1))) (s.jump 0x30#8) (egaConfigured s) :=
  ((leads_smode 0x30#8 1#8 (by decide) (by decide)).trans_blocks (leads_bind 0x31#8 2#8 (.inr rfl) (by decide))).trans
    ((leads_clear (s := boundTo (s.svcSetMode (selectedMode s.cfg 1#8)) (bindingOf 2#8)) 0x32#8 hidx (by decide)).trans
    (leads_report 0x33#8 2#8 (by decide) (by decide) (by decide)))

/-! ## The CGA branch (43_detector.md R155, R156, R161) -/

/-- One of the CRT-controller writes. -/
def crtcProgrammed (s : State) (k : Fin 4) : State := s.crtcWrite s.cfg.crtcIdx[k] s.cfg.crtcVal[k]

theorem leads_crtcw {s : State} (a : Byte) (k : Fin 4)
    (hcode : decodeMicro (romWord [] a) = .ok (.crtcw (BitVec.ofNat 8 k.val))) :
    Leads (blocks 1) (s.jump a) ((crtcProgrammed s k).jump (a + 1#8)) :=
  leads_block a (.crtcw (BitVec.ofNat 8 k.val)) hcode rfl fun _ => exec_crtcw (by fin_cases k <;> rfl) _

/-- The four CRT-controller writes. -/
def crtcSet (s : State) : State := crtcProgrammed (crtcProgrammed (crtcProgrammed (crtcProgrammed s 0) 1) 2) 3

theorem leads_crtcSet {s : State} : Leads (blocks (1 + (1 + (1 + 1)))) (s.jump 0x25#8) ((crtcSet s).jump 0x29#8) :=
  (leads_crtcw 0x25#8 0 (by decide)).trans_blocks ((leads_crtcw 0x26#8 1 (by decide)).trans_blocks
    ((leads_crtcw 0x27#8 2 (by decide)).trans_blocks (leads_crtcw 0x28#8 3 (by decide))))

/-- CGAHW stamped, the LFB cleared, the CGA presenter bound, the class reported. -/
def cgaFilled (s : State) : State := reported (boundTo (cleared (stamped s 16000) 16000) (bindingOf 1#8)) 1#8

theorem leads_cgaFilled {s : State} (hidx : s.idx.toNat = 0) :
    Leads (blocks 16000 ++ (blocks 16000 ++ blocks (1 + (1 + 1)))) (s.jump 0x2A#8) (cgaFilled s) :=
  (leads_stamp hidx).trans ((leads_clear 0x2B#8 (by rwa [idx_stamped]) (by decide)).trans
    ((leads_bind 0x2C#8 1#8 (.inl rfl) (by decide)).trans_blocks (leads_report 0x2D#8 1#8 (by decide) (by decide) (by decide))))

/-- The state after the CGA branch. -/
def cgaConfigured (s : State) (answers : List (Bool × Bool)) (d1 : Bool) : State := cgaFilled (waitedTo (crtcSet s) 0x2A#8 answers d1)

theorem idx_waitedTo_crtcSet (s : State) (back : Byte) (answers : List (Bool × Bool)) (d1 : Bool) :
    (waitedTo (crtcSet s) back answers d1).idx = s.idx := by
  simp [waitedTo, waited, crtcSet, crtcProgrammed]

theorem leads_cgaBranch {s : State} {inRetrace noRetrace : List Bool} {d0 d1 : Bool} (hidx : s.idx.toNat = 0) :
    Leads (blocks (1 + (1 + (1 + 1))) ++ (waitMoves (waitAnswers inRetrace d0 noRetrace d1) ++ (blocks 16000 ++ (blocks 16000 ++ blocks (1 + (1 + 1))))))
      (s.jump 0x25#8) (cgaConfigured s (waitAnswers inRetrace d0 noRetrace d1) d1) :=
  (leads_crtcSet).trans ((leads_callWait 0x29#8 (by decide)).trans (leads_cgaFilled (by rwa [idx_waitedTo_crtcSet])))

/-! ## What the branches leave behind -/

theorem history_egaConfigured (s : State) : (egaConfigured s).history = s.history ++ [.setMode s.cfg.modeEga, .report 2#8, .done] := by
  simp [State.history, egaConfigured, reported, cleared, boundTo, selectedMode]

theorem history_cgaConfigured (s : State) (answers : List (Bool × Bool)) (d1 : Bool) :
    (cgaConfigured s answers d1).history = s.history ++ (List.finRange 4).map (fun k => .crtcWrite s.cfg.crtcIdx[k] s.cfg.crtcVal[k])
      ++ statusReads answers ++ stampWrites ++ [.report 1#8, .done] := by
  have hstamps : (eventSeq (fun i => .hwWriteCga i (stampByte i)) 16000).reverse = stampWrites := reverse_eventSeq fun _ _ => rfl
  rw [← hstamps]
  simp [State.history, cgaConfigured, cgaFilled, reported, boundTo, cleared, stamped, waitedTo, waited, crtcSet, crtcProgrammed, List.finRange]

theorem crtcIdx_injective {p : Config.Params} (h : p.valid = true) : Function.Injective fun k : Fin 4 => (p.crtcIdx[k]).toNat := by
  have hnodup : p.crtcIdx.toList.Nodup := by
    simp only [Config.Params.valid, Bool.and_eq_true, decide_eq_true_eq] at h
    exact h.1.1.2
  intro i j hij
  have hget : p.crtcIdx.toList[i.val] = p.crtcIdx.toList[j.val] := BitVec.eq_of_toNat_eq hij
  exact Fin.ext (hnodup.getElem_inj_iff.mp hget)

/-- A write reaches its own register only: the register numbers are different (43_detector.md R145). -/
theorem read?_crtcProgrammed {s : State} {p : Config.Params} (hvalid : p.valid = true) (hcfg : s.cfg = p) (j k : Fin 4) :
    (crtcProgrammed s j).adapter.crtc.read? (p.crtcIdx[k]).toNat
      = if k = j then some p.crtcVal[k] else s.adapter.crtc.read? (p.crtcIdx[k]).toNat := by
  subst hcfg
  refine (Memory.read?_write _ _ _ _).trans ?_
  split_ifs with hnum hkj hkj
  · rw [hkj]
  · exact absurd (crtcIdx_injective hvalid hnum) hkj
  · exact absurd (by rw [hkj]) hnum
  · rfl

theorem read?_crtcSet {s : State} (hvalid : s.cfg.valid = true) (k : Fin 4) :
    (crtcSet s).adapter.crtc.read? (s.cfg.crtcIdx[k]).toNat = some s.cfg.crtcVal[k] := by
  have hcfg (t : State) (j : Fin 4) : (crtcProgrammed t j).cfg = t.cfg := rfl
  simp only [crtcSet, read?_crtcProgrammed hvalid, hcfg]
  fin_cases k <;> rfl

theorem read?_lfb_cgaConfigured (s : State) (answers : List (Bool × Bool)) (d1 : Bool) {i : Nat} (hi : i < 16000) :
    (cgaConfigured s answers d1).lfb.read? i = some 0x00#8 := by
  simp only [cgaConfigured, cgaFilled, reported, State.complete_lfb, State.reportClass_lfb]
  exact read?_cleared (stamped _ 16000) hi

/-- The registers that the EGA branch sets and those it leaves. -/
theorem egaConfigured_registers (s : State) :
    (egaConfigured s).status = { s.status with busy := false, cfgd := true } ∧ (egaConfigured s).pageVis = s.pageVis
      ∧ (egaConfigured s).pageAct = s.pageAct ∧ (egaConfigured s).idx = s.idx ∧ (egaConfigured s).bind = 2#2 ∧ (egaConfigured s).upc = 0x00#8 := by
  have hbind : bindingOf 2#8 = 2#2 := rfl
  simp [hbind, egaConfigured, reported, cleared, boundTo, Config.CLASS_NONE]

/-- The registers that the CGA branch sets and those it leaves. -/
theorem cgaConfigured_registers (s : State) (answers : List (Bool × Bool)) (d1 : Bool) :
    (cgaConfigured s answers d1).status = { s.status with busy := false, cfgd := true } ∧ (cgaConfigured s answers d1).pageVis = s.pageVis
      ∧ (cgaConfigured s answers d1).pageAct = s.pageAct ∧ (cgaConfigured s answers d1).idx = s.idx
      ∧ (cgaConfigured s answers d1).bind = 1#2 ∧ (cgaConfigured s answers d1).upc = 0x00#8
      ∧ (cgaConfigured s answers d1).adapter.mode = s.adapter.mode ∧ (cgaConfigured s answers d1).adapter.crtc = (crtcSet s).adapter.crtc := by
  have hbind : bindingOf 1#8 = 1#2 := rfl
  simp [hbind, cgaConfigured, cgaFilled, reported, cleared, stamped, boundTo, waitedTo, waited, crtcSet, crtcProgrammed, Config.CLASS_NONE]

theorem read?_stamped (s : State) {k i : Nat} (hi : i < k) : (stamped s k).adapter.cgahw.read? i = some (stampByte i) :=
  read?_writeSeq (off := id) Function.injective_id hi

theorem read?_cgaConfigured (s : State) (answers : List (Bool × Bool)) (d1 : Bool) {i : Nat} (hi : i < 8000) :
    (cgaConfigured s answers d1).adapter.cgahw.read? (2 * i) = some 0xDE#8
      ∧ (cgaConfigured s answers d1).adapter.cgahw.read? (2 * i + 1) = some 0x00#8 :=
  ⟨(read?_stamped _ (by omega)).trans (congrArg some (stampByte_of_even (by omega))),
    (read?_stamped _ (by omega)).trans (congrArg some (stampByte_of_odd (by omega)))⟩

/-- The moves of CONFIG on an EGA, cut where the segments meet. -/
theorem egaConfig_moves : [Input.host (.writeCmd 0x01#8)] ++ blocks (1 + 1) ++ (blocks 1 ++ (blocks (1 + 1) ++ (blocks 16000 ++ blocks (1 + 1))))
    = .host (.writeCmd 0x01#8) :: blocks 16007 := by
  simp only [List.cons_append, List.nil_append, ← blocks_add]

/-- The moves of CONFIG on a CGA, cut where the segments meet. -/
theorem cgaConfig_moves (answers : List (Bool × Bool)) :
    [Input.host (.writeCmd 0x01#8)] ++ blocks (1 + 1) ++ (blocks (1 + 1) ++ (blocks 1
      ++ (blocks (1 + (1 + (1 + 1))) ++ (waitMoves answers ++ (blocks 16000 ++ (blocks 16000 ++ blocks (1 + (1 + 1))))))))
    = .host (.writeCmd 0x01#8) :: blocks 10 ++ polls answers ++ blocks 32004 := by
  simp only [waitMoves, List.append_assoc, List.cons_append, List.nil_append, blocks_append_append, ← blocks_add]

/-- Settles O39: CONFIG is its questions, then the branch that their answers choose. -/
theorem configDecidesOnAnswers : Obligations.ConfigDecidesOnAnswers := by
  intro s sw ds sws dss rest hrom hidle hcfgd hsw hds
  have hswitches := leads_toSwitches hidle hcfgd hsw
  refine ⟨fun hin => ⟨fun hega => ?toEga, fun hega hmono => ?toCga, fun hega hmono => ?toNone⟩, fun hunsup hidx hega hin => ?ega,
    fun inRetrace noRetrace d0 d1 hvalid hunsup hidx hega hmono hin => ?cga⟩
  case toEga =>
    refine ⟨_, (hswitches.trans (leads_egaDecision hega)).run_of_inputs (rest := blocks 2 ++ rest) hrom hin rfl, rfl, ?_, ?_⟩
    · simp [State.history, atSwitches]
    · simp [classify, isEgaCode_iff.mpr hega]
  case toCga =>
    refine ⟨_, (hswitches.trans ((leads_toSettings hega hds).trans_blocks (leads_cgaDecision hmono))).run_of_inputs (rest := rest) hrom hin rfl, rfl, ?_, ?_⟩
    · simp [State.history, atSettings, atSwitches]
    · simp [classify, mt isEgaCode_iff.mp hega, mt isMono_iff.mp hmono]
  case toNone =>
    refine ⟨_, (hswitches.trans ((leads_toSettings hega hds).trans_blocks (leads_noneDecision hmono))).run_of_inputs (rest := rest) hrom hin rfl, rfl, ?_, ?_⟩
    · simp [State.history, atSettings, atSwitches]
    · simp [classify, mt isEgaCode_iff.mp hega, isMono_iff.mpr hmono]
  case ega =>
    have hrun := hswitches.trans ((leads_egaDecision hega).trans (leads_egaBranch (s := atSwitches s sw sws) hidx))
    rw [egaConfig_moves] at hrun
    obtain ⟨hstatus, hvis, hact, hidxEnd, hbind, hupc⟩ := egaConfigured_registers (atSwitches s sw sws)
    refine ⟨_, hrun.run_of_inputs hrom hin (by rw [List.length_cons, length_blocks]), (history_egaConfigured _).trans ?_, hbind, hstatus.trans ?_,
      fun i => read?_cleared _, rfl, rfl, if_pos rfl, hvis, hact, (congrArg _ hidxEnd).trans hidx, hupc⟩
    · simp [State.history, atSwitches]
    · simp [atSwitches, hidle]
  case cga =>
    have hrun := hswitches.trans ((leads_toSettings hega hds).trans ((leads_cgaDecision hmono).trans
      (leads_cgaBranch (s := atSettings s sw sws ds dss) (inRetrace := inRetrace) (noRetrace := noRetrace) (d0 := d0) (d1 := d1) hidx)))
    rw [cgaConfig_moves] at hrun
    have hhistory := history_cgaConfigured (atSettings s sw sws ds dss) (waitAnswers inRetrace d0 noRetrace d1) d1
    have hlfb {i : Nat} := read?_lfb_cgaConfigured (atSettings s sw sws ds dss) (waitAnswers inRetrace d0 noRetrace d1) d1 (i := i)
    have hcga {i : Nat} := read?_cgaConfigured (atSettings s sw sws ds dss) (waitAnswers inRetrace d0 noRetrace d1) d1 (i := i)
    obtain ⟨hstatus, hvis, hact, hidxEnd, hbind, hupc, hmode, hcrtc⟩ :=
      cgaConfigured_registers (atSettings s sw sws ds dss) (waitAnswers inRetrace d0 noRetrace d1) d1
    have hreads := read?_crtcSet (s := atSettings s sw sws ds dss) hvalid
    rw [← hcrtc] at hreads
    generalize cgaConfigured (atSettings s sw sws ds dss) (waitAnswers inRetrace d0 noRetrace d1) d1 = u at *
    refine ⟨_, hrun.run_of_inputs hrom hin ?_, hhistory.trans ?_, hbind, hstatus.trans ?_, fun i => hlfb, fun i => hcga, hreads,
      hmode, hvis, hact, (congrArg _ hidxEnd).trans hidx, hupc⟩
    · simp only [List.length_append, List.length_cons, length_blocks, length_polls_waitAnswers]
      ring
    · simp [State.history, atSettings, atSwitches]
    · simp [atSettings, atSwitches, hidle]

end Sys2Proof.Claims
end


section
/-! PROOF. PRESENT.EGA (42_ega_presenter.md R129, R130): the four planes are written in the hidden region, then the pages are exchanged and the adapter takes the new start address at the rise of VR. -/

namespace Sys2Proof.Claims

open Sys2Proof.Machine

/-! ## The planes (42_ega_presenter.md R120 to R124) -/

/-- `s` with the plane counter at `n`. -/
def countPlane (s : State) (n : Nat) : State := { s with pl := BitVec.ofNat 3 n }

/-- `s` after PSEL, `k` bytes and PLNEXT of plane `p`. -/
def planeWritten (k : Nat) (s : State) (p : Fin 4) : State := countPlane (sliced (s.planeSelect p) p k) (p.val + 1)

theorem leads_plinit (s : State) : Leads (blocks 1) (s.jump 0x10#8) ((countPlane s 0).jump 0x11#8) :=
  leads_block 0x10#8 .plinit (by decide) rfl fun _ => exec_plinit _

theorem exec_plnext_of_plane {s : State} {p : Fin 4} (a : Byte) (hpl : s.pl.toNat = p.val) :
    exec (.plnext a) s = .next ((countPlane s (p.val + 1)).jump (if p.val < 3 then a else s.upc + 1#8)) := by
  rw [exec_plnext, planesLeft_eq, nextPlane, hpl]
  simp only [State.branch, decide_eq_true_eq]
  rfl

theorem leads_plane {s : State} {p : Fin 4} (hidx : s.idx.toNat = 0) (hpl : s.pl.toNat = p.val) (hfit : s.pageAct.toNat + 8000 ≤ s.cfg.egaPlaneSize) :
    Leads (blocks 8002) (s.jump 0x11#8) ((planeWritten 8000 s p).jump (if p.val < 3 then 0x11#8 else 0x14#8)) := by
  have hsel : Leads (blocks 1) (s.jump 0x11#8) ((s.planeSelect p).jump 0x12#8) := leads_block 0x11#8 .psel (by decide) rfl fun _ => exec_psel hpl
  have hnext {k : Nat} : Leads (blocks 1) ((sliced (s.planeSelect p) p k).jump 0x13#8) ((planeWritten k s p).jump (if p.val < 3 then 0x11#8 else 0x14#8)) :=
    leads_block 0x13#8 (.plnext 0x11#8) (by decide) rfl fun _ => exec_plnext_of_plane 0x11#8 hpl
  exact (hsel.trans_blocks (leads_slice hidx hpl rfl hfit)).trans_blocks hnext

/-- `s` after the planes of a list, `k` bytes each. -/
def planesWritten (k : Nat) (s : State) (l : List (Fin 4)) : State := l.foldl (planeWritten k) s

/-- Beside the history, the plane counter, the plane selected and the planes nothing changes. -/
theorem planesWritten_frame (k : Nat) (s : State) (l : List (Fin 4)) :
    planesWritten k s l = { s with pl := (planesWritten k s l).pl, events := (planesWritten k s l).events,
                                   adapter := { s.adapter with plane := (planesWritten k s l).adapter.plane, egahw := (planesWritten k s l).adapter.egahw } } := by
  induction l generalizing s with
  | nil => rfl
  | cons p l ih => exact ih (planeWritten k s p)

theorem planesWritten_registers (k : Nat) (s : State) (l : List (Fin 4)) :
    (planesWritten k s l).cfg = s.cfg ∧ (planesWritten k s l).idx = s.idx ∧ (planesWritten k s l).bind = s.bind
      ∧ (planesWritten k s l).status = s.status ∧ (planesWritten k s l).lfb = s.lfb
      ∧ (planesWritten k s l).pageVis = s.pageVis ∧ (planesWritten k s l).pageAct = s.pageAct := by
  rw [planesWritten_frame]
  exact ⟨rfl, rfl, rfl, rfl, rfl, rfl, rfl⟩

/-- After the last plane the counter is past it, and it is still selected. -/
theorem planesWritten_last (k : Nat) (s : State) :
    (planesWritten k s (List.finRange 4)).pl.toNat = 4 ∧ (planesWritten k s (List.finRange 4)).adapter.plane = some 3 :=
  ⟨rfl, rfl⟩

theorem idx_planeWritten (k : Nat) (s : State) (p : Fin 4) : (planeWritten k s p).idx = s.idx := rfl

theorem pageAct_planeWritten (k : Nat) (s : State) (p : Fin 4) : (planeWritten k s p).pageAct = s.pageAct := rfl

theorem cfg_planeWritten (k : Nat) (s : State) (p : Fin 4) : (planeWritten k s p).cfg = s.cfg := rfl

/-- PLINIT and the four rounds of the plane loop. -/
theorem leads_planes {s : State} (hidx : s.idx.toNat = 0) (hfit : s.pageAct.toNat + 8000 ≤ s.cfg.egaPlaneSize) :
    Leads (blocks (1 + (8002 + (8002 + (8002 + 8002))))) (s.jump 0x10#8) ((planesWritten 8000 (countPlane s 0) (List.finRange 4)).jump 0x14#8) := by
  refine (leads_plinit s).trans_blocks ((leads_plane (s := countPlane s 0) (p := 0) hidx rfl hfit).trans_blocks ((leads_plane (p := 1) ?_ rfl ?_).trans_blocks
    ((leads_plane (p := 2) ?_ rfl ?_).trans_blocks (leads_plane (p := 3) ?_ rfl ?_))))
  all_goals simpa only [idx_planeWritten, pageAct_planeWritten, cfg_planeWritten]

theorem history_planeWritten (k : Nat) (s : State) (p : Fin 4) :
    (planeWritten k s p).history
      = s.history ++ .planeSelect p :: (List.range k).map fun n => .hwWriteEga p (s.pageAct.toNat + n) (planeByte s n p.val) := by
  have hevents : (planeWritten k s p).events
      = eventSeq (fun n => .hwWriteEga p (s.pageAct.toNat + n) (planeByte s n p.val)) k ++ .planeSelect p :: s.events := rfl
  rw [State.history, hevents, List.reverse_append, reverse_eventSeq fun _ _ => rfl]
  simp [State.history]

theorem history_planesWritten (k : Nat) (s : State) (l : List (Fin 4)) :
    (planesWritten k s l).history
      = s.history ++ l.flatMap fun p => .planeSelect p :: (List.range k).map fun n => .hwWriteEga p (s.pageAct.toNat + n) (planeByte s n p.val) := by
  induction l generalizing s with
  | nil => simp [planesWritten]
  | cons p l ih =>
    refine (ih (planeWritten k s p)).trans ?_
    rw [history_planeWritten, List.append_assoc]
    rfl

/-- The bytes of the planes written are those of the region at PAGE_ACT; every other byte is as before. -/
theorem read?_planesWritten (k : Nat) (s : State) (l : List (Fin 4)) (q : Fin 4) (a : Nat) :
    ((planesWritten k s l).adapter.egahw.plane q).read? a
      = if q ∈ l ∧ s.pageAct.toNat ≤ a ∧ a < s.pageAct.toNat + k then some (planeByte s (a - s.pageAct.toNat) q.val)
        else (s.adapter.egahw.plane q).read? a := by
  induction l generalizing s with
  | nil => simp [planesWritten]
  | cons p l ih =>
    have hplane : ((planeWritten k s p).adapter.egahw.plane q).read? a
        = if q = p ∧ s.pageAct.toNat ≤ a ∧ a < s.pageAct.toNat + k then some (planeByte s (a - s.pageAct.toNat) p.val)
          else (s.adapter.egahw.plane q).read? a := read?_writePlane _ p q _ _ k a
    have hrest := ih (planeWritten k s p)
    rw [hplane] at hrest
    refine hrest.trans ?_
    change (if q ∈ l ∧ s.pageAct.toNat ≤ a ∧ a < s.pageAct.toNat + k then some (planeByte s (a - s.pageAct.toNat) q.val) else _) = _
    by_cases hl : q ∈ l
    · simp only [hl, List.mem_cons, or_true, true_and]
      split_ifs with hregion hp
      · rfl
      · exact absurd hp.2 hregion
      · rfl
    · obtain rfl | hp := eq_or_ne q p
      · simp only [hl, List.mem_cons, true_or, true_and, false_and, if_false]
      · simp only [hl, hp, List.mem_cons, or_false, false_and, if_false]

/-! ## The flip (42_ega_presenter.md R125 to R130) -/

/-- `s` with the pages exchanged and SA taken from the page now visible. -/
def pagesSwapped (s : State) : State := { s with pageVis := s.pageAct, pageAct := s.pageVis, sa := s.pageAct }

theorem leads_pagesSwapped (s : State) : Leads (blocks (1 + 1)) (s.jump 0x14#8) ((pagesSwapped s).jump 0x16#8) := by
  have hswap : Leads (blocks 1) (s.jump 0x14#8) (({ s with pageVis := s.pageAct, pageAct := s.pageVis } : State).jump 0x15#8) :=
    leads_block 0x14#8 .swap (by decide) rfl fun _ => exec_swap _
  exact hswap.trans_blocks (leads_block 0x15#8 .saddr (by decide) rfl fun _ => exec_saddr _)

/-- `s` with both halves of SA written to the CRT controller. -/
def addressWritten (s : State) : State :=
  (s.crtcWrite s.cfg.crtcIdxSah (s.sa.extractLsb' 8 8)).crtcWrite s.cfg.crtcIdxSal (s.sa.extractLsb' 0 8)

theorem leads_addressWritten (s : State) : Leads (blocks (1 + 1)) (s.jump 0x17#8) ((addressWritten s).jump 0x19#8) := by
  have hsahi : Leads (blocks 1) (s.jump 0x17#8) ((s.crtcWrite s.cfg.crtcIdxSah (s.sa.extractLsb' 8 8)).jump 0x18#8) :=
    leads_block 0x17#8 .sahi (by decide) rfl fun _ => exec_sahi _
  exact hsahi.trans_blocks (leads_block 0x18#8 .salo (by decide) rfl fun _ => exec_salo _)

/-- The adapter's start address is then SA. -/
theorem startAddress_addressWritten {s : State} (hne : s.cfg.crtcIdxSah ≠ s.cfg.crtcIdxSal) : (addressWritten s).startAddress = s.sa := by
  have hnum : s.cfg.crtcIdxSah.toNat ≠ s.cfg.crtcIdxSal.toNat := mt BitVec.eq_of_toNat_eq hne
  refine (startAddress_of_reads ?hi ?lo).trans (halves_append s.sa)
  case hi => exact (Memory.read?_write_other _ _ hnum).trans (Memory.read?_write_self _ _ _)
  case lo => exact Memory.read?_write_self _ _ _

/-- The state after the flip that saw the answers `scans` to WDE's polls and `answers` to those of wait_vsync. -/
def flipped (s : State) (scans answers : List (Bool × Bool)) (d1 : Bool) : State :=
  (waitedTo (addressWritten (pollAll (pagesSwapped s) scans)) 0x1A#8 answers d1).complete

theorem leads_flipped (s : State) (midScan inRetrace noRetrace : List Bool) (v0 d0 d1 : Bool) :
    Leads (blocks (1 + 1) ++ (polls (midScan.map (·, true) ++ [(v0, false)]) ++ (blocks (1 + 1)
        ++ (waitMoves (waitAnswers inRetrace d0 noRetrace d1) ++ blocks 1))))
      (s.jump 0x14#8) (flipped s (midScan.map (·, true) ++ [(v0, false)]) (waitAnswers inRetrace d0 noRetrace d1) d1) :=
  (leads_pagesSwapped s).trans ((leads_wde midScan v0).trans ((leads_addressWritten _).trans
    ((leads_callWait 0x19#8 (by decide)).trans (leads_done 0x1A#8 (by decide)))))

theorem history_flipped (s : State) (scans answers : List (Bool × Bool)) (d1 : Bool) :
    (flipped s scans answers d1).history = s.history ++ statusReads scans
      ++ [.crtcWrite s.cfg.crtcIdxSah (s.pageAct.extractLsb' 8 8), .crtcWrite s.cfg.crtcIdxSal (s.pageAct.extractLsb' 0 8)]
      ++ statusReads answers ++ [.done] := by
  rw [flipped, pollAll_frame]
  simp [State.history, waitedTo, waited, addressWritten, pagesSwapped]

/-- Beside the pages, SA and BUSY the flip leaves the registers and the planes as they were. -/
theorem flipped_frame (s : State) (scans answers : List (Bool × Bool)) (d1 : Bool) :
    flipped s scans answers d1 = { s with
      pageVis := s.pageAct, pageAct := s.pageVis, sa := s.pageAct, ret := 0x1A#8, upc := 0x00#8, status := { s.status with busy := false },
      events := (flipped s scans answers d1).events, env := (flipped s scans answers d1).env,
      adapter := { s.adapter with vr := true, de := d1, crtc := (flipped s scans answers d1).adapter.crtc,
                                  saLatched := (flipped s scans answers d1).adapter.saLatched } } := by
  rw [flipped, pollAll_frame]
  rfl

theorem flipped_registers (s : State) (scans answers : List (Bool × Bool)) (d1 : Bool) :
    (flipped s scans answers d1).pageVis = s.pageAct ∧ (flipped s scans answers d1).pageAct = s.pageVis ∧ (flipped s scans answers d1).sa = s.pageAct
      ∧ (flipped s scans answers d1).pl = s.pl ∧ (flipped s scans answers d1).idx = s.idx ∧ (flipped s scans answers d1).bind = s.bind
      ∧ (flipped s scans answers d1).lfb = s.lfb ∧ (flipped s scans answers d1).status = { s.status with busy := false }
      ∧ (flipped s scans answers d1).upc = 0x00#8 ∧ (flipped s scans answers d1).adapter.plane = s.adapter.plane
      ∧ (flipped s scans answers d1).adapter.egahw = s.adapter.egahw := by
  rw [flipped_frame]
  exact ⟨rfl, rfl, rfl, rfl, rfl, rfl, rfl, rfl, rfl, rfl, rfl⟩

/-- The adapter scans out from the page now visible, and its registers hold it. -/
theorem startAddress_flipped {s : State} (scans answers : List (Bool × Bool)) (d1 : Bool) (hne : s.cfg.crtcIdxSah ≠ s.cfg.crtcIdxSal) :
    (flipped s scans answers d1).startAddress = s.pageAct ∧ (flipped s scans answers d1).adapter.saLatched = s.pageAct := by
  have haddr : (addressWritten (pollAll (pagesSwapped s) scans)).startAddress = s.pageAct := by
    rw [startAddress_addressWritten (by rw [pollAll_frame]; exact hne), pollAll_frame]
    rfl
  exact ⟨haddr, haddr⟩

/-! ## The statement -/

/-- The moves of PRESENT.EGA, cut where the segments meet. -/
theorem egaPresent_moves (scans answers : List (Bool × Bool)) :
    [Input.host (.writeCmd 0x02#8)] ++ (blocks (1 + (8002 + (8002 + (8002 + 8002))))
      ++ (blocks (1 + 1) ++ (polls scans ++ (blocks (1 + 1) ++ (waitMoves answers ++ blocks 1)))))
    = .host (.writeCmd 0x02#8) :: blocks 32011 ++ polls scans ++ blocks 3 ++ polls answers ++ blocks 2 := by
  simp only [waitMoves, List.append_assoc, List.cons_append, List.nil_append, blocks_append_append, ← blocks_add]

theorem length_egaPresent_moves (midScan inRetrace noRetrace : List Bool) (v0 d0 d1 : Bool) :
    (Input.host (.writeCmd 0x02#8) :: blocks 32011 ++ polls (midScan.map (·, true) ++ [(v0, false)]) ++ blocks 3
      ++ polls (waitAnswers inRetrace d0 noRetrace d1) ++ blocks 2).length
      = 2 * (midScan.length + inRetrace.length + noRetrace.length) + 32023 := by
  have hscans : (polls (midScan.map (·, true) ++ [(v0, false)])).length = 2 * (midScan.length + 1) := by
    rw [length_polls, List.length_append, List.length_map, List.length_singleton]
  rw [List.length_append, List.length_append, List.length_append, List.length_append, List.length_cons, length_blocks, length_blocks,
    length_blocks, length_polls_waitAnswers, hscans]
  ring

/-- Settles O23: the four planes, then the flip. -/
theorem presentEgaShowsFrame : Obligations.PresentEgaShowsFrame := by
  intro s midScan inRetrace noRetrace v0 d0 d1 rest hrom hupc hidx hidle hbind hfit hne hin
  have hrun := (leads_command 0x02#8 0x10#8 hidle fun u _ h => dispatchCommand_present_ega (h.trans hbind)).trans
    ((leads_planes (s := accepted s 0x02#8) hidx hfit).trans (leads_flipped _ midScan inRetrace noRetrace v0 d0 d1))
  have hhistory := history_planesWritten 8000 (countPlane (accepted s 0x02#8) 0) (List.finRange 4)
  have hread := read?_planesWritten 8000 (countPlane (accepted s 0x02#8) 0) (List.finRange 4)
  obtain ⟨hpl, hplane⟩ := planesWritten_last 8000 (countPlane (accepted s 0x02#8) 0)
  obtain ⟨hcfg, hidxW, hbindW, hstatus, hlfb, hvis, hact⟩ := planesWritten_registers 8000 (countPlane (accepted s 0x02#8) 0) (List.finRange 4)
  generalize planesWritten 8000 (countPlane (accepted s 0x02#8) 0) (List.finRange 4) = w at *
  rw [egaPresent_moves] at hrun
  obtain ⟨haddr, hlatch⟩ := startAddress_flipped (s := w) (midScan.map (·, true) ++ [(v0, false)]) (waitAnswers inRetrace d0 noRetrace d1) d1 (hcfg ▸ hne)
  obtain ⟨hvisT, hactT, hsa, hplT, hidxT, hbindT, hlfbT, hstatusT, hupcT, hplaneT, hega⟩ :=
    flipped_registers w (midScan.map (·, true) ++ [(v0, false)]) (waitAnswers inRetrace d0 noRetrace d1) d1
  have hhistoryT := history_flipped w (midScan.map (·, true) ++ [(v0, false)]) (waitAnswers inRetrace d0 noRetrace d1) d1
  rw [← hega] at hread
  generalize flipped w (midScan.map (·, true) ++ [(v0, false)]) (waitAnswers inRetrace d0 noRetrace d1) d1 = t at *
  refine ⟨_, hrun.run_of_inputs hrom hin ?steps, hhistoryT.trans ?history, fun p n hn => ?written, fun p a ha => ?others, hvisT.trans hact,
    hactT.trans hvis, hsa.trans hact, (congrArg _ hplT).trans hpl, hplaneT.trans hplane, haddr.trans hact, hlatch.trans hvisT.symm,
    hlfbT.trans hlfb, hbindT.trans hbindW, (congrArg _ (hidxT.trans hidxW)).trans hidx, hupcT, ?status⟩
  case steps => exact (length_egaPresent_moves midScan inRetrace noRetrace v0 d0 d1).symm
  case history =>
    have hcmd : (countPlane (accepted s 0x02#8) 0).history = s.history ++ [.cmd 0x02#8] := State.history_of_events rfl
    rw [hhistory, hcmd, hcfg, hact]
    rfl
  case written =>
    refine (hread p _).trans ((if_pos ⟨List.mem_finRange p, Nat.le_add_right _ _, Nat.add_lt_add_left hn _⟩).trans ?_)
    change some (planeByte s (s.pageAct.toNat + n - s.pageAct.toNat) p.val) = _
    rw [Nat.add_sub_cancel_left]
  case others => exact (hread p a).trans (if_neg fun hw => ha hw.2)
  case status =>
    refine hstatusT.trans ?_
    rw [hstatus]
    simp [countPlane, accepted, started, ← hidle]

end Sys2Proof.Claims
end
